-- ==== Sys2Proof/Word.lean ====
section
/-! DEFINITION. The two word types of the core (00_scope.md R4: registers of 8 bits, pairs, PC, SP and addresses of 16). -/

namespace Sys2Proof

/-- A byte: a general register, a memory location, an immediate n8 or e8 (00_scope.md R4, R5). -/
abbrev Byte := BitVec 8

/-- A 16-bit word: a register pair, PC, SP, an address, an immediate n16 (00_scope.md R4, R5). -/
abbrev Word := BitVec 16

end Sys2Proof
end

