-- ==== Sys2Proof/Form.lean ====
section
/-! DEFINITION. The operand tables of 30_encoding.md R62 to R65 as types, and `Form`: an instruction as its family and its
operands (the field table of R68 and R69), where `Instr` (Syntax.lean) has one constructor per row of the opcode table. -/

namespace Sys2Proof

/-- The 3-bit operand field `R8[i]` (R63): seven registers and the memory byte at address HL. -/
inductive R8
  | b | c | d | e | h | l | mhl | a
  deriving DecidableEq, Repr

/-- The 2-bit pair field `R16[p]` (R64). -/
inductive R16
  | bc | de | hl | sp
  deriving DecidableEq, Repr

/-- The 2-bit pair field `R16STK[p]` of PUSH and POP (R64). -/
inductive R16Stk
  | bc | de | hl | af
  deriving DecidableEq, Repr

/-- The 2-bit address field `R16MEM[p]` (R64): `hlInc` and `hlDec` are (HL+) and (HL-). -/
inductive R16Mem
  | bc | de | hlInc | hlDec
  deriving DecidableEq, Repr

/-- The 2-bit condition field `COND[i]` (R65). -/
inductive Cond
  | nz | z | nc | c
  deriving DecidableEq, Repr

/-- The eight 8-bit ALU operations, in the order of the field y (R68; 42_alu8.md R167). -/
inductive AluOp
  | add | adc | sub | sbc | and | xor | or | cp
  deriving DecidableEq, Repr

/-- The eight rotate and shift operations, in the order of the field y (44_rotates_cb.md R194). -/
inductive RotOp
  | rlc | rrc | rl | rr | sla | sra | swap | srl
  deriving DecidableEq, Repr

/-- The four accumulator rotates, in the order of the field y (R68). -/
inductive AccRot
  | rlca | rrca | rla | rra
  deriving DecidableEq, Repr

/-- A 3-bit field used as a number: a bit index b or the restart number y (R66). -/
inductive Idx
  | i0 | i1 | i2 | i3 | i4 | i5 | i6 | i7
  deriving DecidableEq, Repr

/-- The seventeen opcodes that fault: six unimplemented (R70) and eleven unassigned (R71). -/
inductive Stop
  | daa | halt | stop | di | ei | reti
  | d3 | db | dd | e3 | e4 | eb | ec | ed | f4 | fc | fd
  deriving DecidableEq, Repr

/-- An instruction as family and operands: the rows of the field tables R68 and R69. -/
inductive Form
  /-- NOP (R220) -/
  | nop
  /-- LD r,r'; LD r,(HL); LD (HL),r: `R8[y] <- R8[z]` (R100, R102, R103); both fields (HL) is HALT's slot -/
  | ld (dst src : R8)
  /-- LD r,n8; LD (HL),n8 (R101, R104) -/
  | ldImm (dst : R8) (n : Byte)
  /-- LD (BC),A; LD (DE),A; LD (HL+),A; LD (HL-),A (R107, R108, R115, R117) -/
  | ldIndA (m : R16Mem)
  /-- LD A,(BC); LD A,(DE); LD A,(HL+); LD A,(HL-) (R105, R106, R116, R118) -/
  | ldAInd (m : R16Mem)
  /-- LD A,(n16) (R109) -/
  | ldAAbs (n : Word)
  /-- LD (n16),A (R110) -/
  | ldAbsA (n : Word)
  /-- LDH A,(C) (R111) -/
  | ldhAC
  /-- LDH (C),A (R112) -/
  | ldhCA
  /-- LDH A,(n8) (R113) -/
  | ldhAImm (n : Byte)
  /-- LDH (n8),A (R114) -/
  | ldhImmA (n : Byte)
  /-- LD rr,n16 (R130) -/
  | ldPair (p : R16) (n : Word)
  /-- LD (n16),SP (R131) -/
  | ldAbsSp (n : Word)
  /-- LD SP,HL (R132) -/
  | ldSpHl
  /-- LD HL,SP+e8 (R133) -/
  | ldHlSpE (e : Byte)
  /-- PUSH rr (R134, R137) -/
  | push (p : R16Stk)
  /-- POP rr (R135, R136) -/
  | pop (p : R16Stk)
  /-- ALU A,r and ALU A,(HL) (R152 to R159, R167) -/
  | alu (op : AluOp) (src : R8)
  /-- ALU A,n8 (R152 to R159, R167) -/
  | aluImm (op : AluOp) (n : Byte)
  /-- INC r; INC (HL) (R160, R161) -/
  | inc (r : R8)
  /-- DEC r; DEC (HL) (R162, R163) -/
  | dec (r : R8)
  /-- CPL (R164) -/
  | cpl
  /-- SCF (R165) -/
  | scf
  /-- CCF (R166) -/
  | ccf
  /-- ADD HL,rr (R180) -/
  | addHl (p : R16)
  /-- INC rr (R181) -/
  | incPair (p : R16)
  /-- DEC rr (R182) -/
  | decPair (p : R16)
  /-- ADD SP,e8 (R183) -/
  | addSp (e : Byte)
  /-- RLCA; RRCA; RLA; RRA (R190 to R193) -/
  | accRot (k : AccRot)
  /-- the prefixed rotates, shifts and SWAP (R195 to R202) -/
  | rot (k : RotOp) (r : R8)
  /-- BIT b,x (R203) -/
  | bit (b : Idx) (r : R8)
  /-- RES b,x (R204) -/
  | res (b : Idx) (r : R8)
  /-- SET b,x (R205) -/
  | set (b : Idx) (r : R8)
  /-- JP n16 (R221) -/
  | jp (n : Word)
  /-- JP cc,n16 (R222) -/
  | jpCond (cc : Cond) (n : Word)
  /-- JP HL (R223) -/
  | jpHl
  /-- JR e8 (R224) -/
  | jr (e : Byte)
  /-- JR cc,e8 (R225) -/
  | jrCond (cc : Cond) (e : Byte)
  /-- CALL n16 (R226) -/
  | call (n : Word)
  /-- CALL cc,n16 (R227) -/
  | callCond (cc : Cond) (n : Word)
  /-- RET (R228) -/
  | ret
  /-- RET cc (R229) -/
  | retCond (cc : Cond)
  /-- RST vec (R230) -/
  | rst (v : Idx)
  /-- the opcodes that fault (R250 to R256) -/
  | stops (k : Stop)
  /-- the row PREFIX_CB: the escape byte with the opcode byte that follows it (R67) -/
  | escape (op2 : Byte)
  deriving DecidableEq, Repr

end Sys2Proof
end

