-- ==== Sys2Proof/WellFormed.lean ====
section
/-! DEFINITION. Which terms of `Instr` are instructions. -/

namespace Sys2Proof

/-- The check. The operands are typed, and "every value of every field of an implemented opcode is legal"
(30_encoding.md R72), so every term passes but the escape byte's row: the escape byte "is not itself an instruction"
(00_scope.md R8), the byte after it selects one of the prefixed space (R67). -/
def Instr.wellFormed : Instr → Bool
  | .escape_cb _ => false
  | _ => true

/-- `Instr.wellFormed` as a proposition. -/
abbrev WellFormed (i : Instr) : Prop := i.wellFormed = true

end Sys2Proof
end

