-- ==== Sys2Proof/Decode.lean ====
section
/-! DEFINITION. Bytes to instructions and back (30_encoding.md). The decoder is written from the FIELD tables (R62 to R69)
and yields a `Form`, which `Form.instr` turns into the opcode-table constructor; the encoder is written from the opcode
table's ROWS (R77), so that their agreement says something. -/

namespace Sys2Proof

/-! ### Bytes and words (00_scope.md R5, R6) -/

/-- `hi:lo`: hi in bits 15..8, lo in bits 7..0 (00_scope.md R5). -/
def wordOf (hi lo : Byte) : Word := hi ++ lo

/-- `v[15:8]` (00_scope.md R5). -/
def hiByte (v : Word) : Byte := v.extractLsb' 8 8

/-- `v[7:0]` (00_scope.md R5). -/
def loByte (v : Word) : Byte := v.extractLsb' 0 8

/-- `sext_16(b)`: sign extension of a byte (00_scope.md R6). -/
def sext16 (b : Byte) : Word := b.signExtend 16

/-- `zext_16(b)`: zero extension of a byte (00_scope.md R6). -/
def zext16 (b : Byte) : Word := b.setWidth 16

/-! ### Bit fields of an opcode byte (R62) -/

/-- op[7:6] (R62). -/
def fieldX (op : Byte) : Nat := op.toNat / 64

/-- op[5:3] (R62). -/
def fieldY (op : Byte) : Nat := op.toNat / 8 % 8

/-- op[2:0] (R62). -/
def fieldZ (op : Byte) : Nat := op.toNat % 8

/-- op[5:4] (R62). -/
def fieldP (op : Byte) : Nat := op.toNat / 16 % 4

/-- op[3] (R62). -/
def fieldQ (op : Byte) : Nat := op.toNat / 8 % 2

/-! ### The operand tables (R63 to R66, R68, R69) -/

/-- `R8[v]`: 0 B, 1 C, 2 D, 3 E, 4 H, 5 L, 6 (HL), 7 A (R63). -/
def R8.ofField (v : Nat) : R8 :=
  match v with
  | 0 => .b | 1 => .c | 2 => .d | 3 => .e | 4 => .h | 5 => .l | 6 => .mhl | _ => .a

/-- The field value that selects an operand: `R8.ofField` read the other way. -/
def R8.field : R8 → Nat
  | .b => 0 | .c => 1 | .d => 2 | .e => 3 | .h => 4 | .l => 5 | .mhl => 6 | .a => 7

/-- `R16[p]`: 0 BC, 1 DE, 2 HL, 3 SP (R64). -/
def R16.ofField (v : Nat) : R16 :=
  match v with
  | 0 => .bc | 1 => .de | 2 => .hl | _ => .sp

/-- The field value that selects an operand: `R16.ofField` read the other way. -/
def R16.field : R16 → Nat
  | .bc => 0 | .de => 1 | .hl => 2 | .sp => 3

/-- `R16STK[p]`: 0 BC, 1 DE, 2 HL, 3 AF (R64). -/
def R16Stk.ofField (v : Nat) : R16Stk :=
  match v with
  | 0 => .bc | 1 => .de | 2 => .hl | _ => .af

/-- The field value that selects an operand: `R16Stk.ofField` read the other way. -/
def R16Stk.field : R16Stk → Nat
  | .bc => 0 | .de => 1 | .hl => 2 | .af => 3

/-- `R16MEM[p]`: 0 (BC), 1 (DE), 2 (HL+), 3 (HL-) (R64). -/
def R16Mem.ofField (v : Nat) : R16Mem :=
  match v with
  | 0 => .bc | 1 => .de | 2 => .hlInc | _ => .hlDec

/-- The field value that selects an operand: `R16Mem.ofField` read the other way. -/
def R16Mem.field : R16Mem → Nat
  | .bc => 0 | .de => 1 | .hlInc => 2 | .hlDec => 3

/-- `COND[i]`: 0 NZ, 1 Z, 2 NC, 3 C (R65). -/
def Cond.ofField (v : Nat) : Cond :=
  match v with
  | 0 => .nz | 1 => .z | 2 => .nc | _ => .c

/-- The field value that selects an operand: `Cond.ofField` read the other way. -/
def Cond.field : Cond → Nat
  | .nz => 0 | .z => 1 | .nc => 2 | .c => 3

/-- `ALU[y]` (R68; 42_alu8.md R167). -/
def AluOp.ofField (v : Nat) : AluOp :=
  match v with
  | 0 => .add | 1 => .adc | 2 => .sub | 3 => .sbc | 4 => .and | 5 => .xor | 6 => .or | _ => .cp

/-- The field value that selects an operand: `AluOp.ofField` read the other way. -/
def AluOp.field : AluOp → Nat
  | .add => 0 | .adc => 1 | .sub => 2 | .sbc => 3 | .and => 4 | .xor => 5 | .or => 6 | .cp => 7

/-- The prefixed row y of x = 0 (R69; 44_rotates_cb.md R194). -/
def RotOp.ofField (v : Nat) : RotOp :=
  match v with
  | 0 => .rlc | 1 => .rrc | 2 => .rl | 3 => .rr | 4 => .sla | 5 => .sra | 6 => .swap | _ => .srl

/-- The field value that selects an operand: `RotOp.ofField` read the other way. -/
def RotOp.field : RotOp → Nat
  | .rlc => 0 | .rrc => 1 | .rl => 2 | .rr => 3 | .sla => 4 | .sra => 5 | .swap => 6 | .srl => 7

/-- The base row x = 0, z = 7, y = 0..3 (R68). -/
def AccRot.ofField (v : Nat) : AccRot :=
  match v with
  | 0 => .rlca | 1 => .rrca | 2 => .rla | _ => .rra

/-- The field value that selects an operand: `AccRot.ofField` read the other way. -/
def AccRot.field : AccRot → Nat
  | .rlca => 0 | .rrca => 1 | .rla => 2 | .rra => 3

/-- A 3-bit number: bit index or restart number (R66). -/
def Idx.ofField (v : Nat) : Idx :=
  match v with
  | 0 => .i0 | 1 => .i1 | 2 => .i2 | 3 => .i3 | 4 => .i4 | 5 => .i5 | 6 => .i6 | _ => .i7

/-- The field value that selects an operand: `Idx.ofField` read the other way. -/
def Idx.field : Idx → Nat
  | .i0 => 0 | .i1 => 1 | .i2 => 2 | .i3 => 3 | .i4 => 4 | .i5 => 5 | .i6 => 6 | .i7 => 7

/-- The opcode byte of a faulting opcode (R70, R71). -/
def Stop.opcode : Stop → Byte
  | .daa => 0x27#8 | .halt => 0x76#8 | .stop => 0x10#8 | .di => 0xF3#8 | .ei => 0xFB#8 | .reti => 0xD9#8
  | .d3 => 0xD3#8 | .db => 0xDB#8 | .dd => 0xDD#8 | .e3 => 0xE3#8 | .e4 => 0xE4#8 | .eb => 0xEB#8
  | .ec => 0xEC#8 | .ed => 0xED#8 | .f4 => 0xF4#8 | .fc => 0xFC#8 | .fd => 0xFD#8

/-! ### From a family and its operands to the row of the opcode table -/

/-- Opcodes 0x40 to 0x7F: `01 yyy zzz` (R68); y = z = 6 is HALT (R70). -/
def ldInstr : R8 → R8 → Instr
  | .b, .b => .ld_b_b | .b, .c => .ld_b_c | .b, .d => .ld_b_d | .b, .e => .ld_b_e
  | .b, .h => .ld_b_h | .b, .l => .ld_b_l | .b, .mhl => .ld_b_mhl | .b, .a => .ld_b_a
  | .c, .b => .ld_c_b | .c, .c => .ld_c_c | .c, .d => .ld_c_d | .c, .e => .ld_c_e
  | .c, .h => .ld_c_h | .c, .l => .ld_c_l | .c, .mhl => .ld_c_mhl | .c, .a => .ld_c_a
  | .d, .b => .ld_d_b | .d, .c => .ld_d_c | .d, .d => .ld_d_d | .d, .e => .ld_d_e
  | .d, .h => .ld_d_h | .d, .l => .ld_d_l | .d, .mhl => .ld_d_mhl | .d, .a => .ld_d_a
  | .e, .b => .ld_e_b | .e, .c => .ld_e_c | .e, .d => .ld_e_d | .e, .e => .ld_e_e
  | .e, .h => .ld_e_h | .e, .l => .ld_e_l | .e, .mhl => .ld_e_mhl | .e, .a => .ld_e_a
  | .h, .b => .ld_h_b | .h, .c => .ld_h_c | .h, .d => .ld_h_d | .h, .e => .ld_h_e
  | .h, .h => .ld_h_h | .h, .l => .ld_h_l | .h, .mhl => .ld_h_mhl | .h, .a => .ld_h_a
  | .l, .b => .ld_l_b | .l, .c => .ld_l_c | .l, .d => .ld_l_d | .l, .e => .ld_l_e
  | .l, .h => .ld_l_h | .l, .l => .ld_l_l | .l, .mhl => .ld_l_mhl | .l, .a => .ld_l_a
  | .mhl, .b => .ld_mhl_b | .mhl, .c => .ld_mhl_c | .mhl, .d => .ld_mhl_d | .mhl, .e => .ld_mhl_e
  | .mhl, .h => .ld_mhl_h | .mhl, .l => .ld_mhl_l | .mhl, .mhl => .halt | .mhl, .a => .ld_mhl_a
  | .a, .b => .ld_a_b | .a, .c => .ld_a_c | .a, .d => .ld_a_d | .a, .e => .ld_a_e
  | .a, .h => .ld_a_h | .a, .l => .ld_a_l | .a, .mhl => .ld_a_mhl | .a, .a => .ld_a_a

/-- `00 yyy 110` (R68). -/
def ldImmInstr : R8 → Byte → Instr
  | .b, n8 => .ld_b_n8 n8 | .c, n8 => .ld_c_n8 n8 | .d, n8 => .ld_d_n8 n8 | .e, n8 => .ld_e_n8 n8
  | .h, n8 => .ld_h_n8 n8 | .l, n8 => .ld_l_n8 n8 | .mhl, n8 => .ld_mhl_n8 n8 | .a, n8 => .ld_a_n8 n8

/-- `00 pp0 010` (R68). -/
def ldIndAInstr : R16Mem → Instr
  | .bc => .ld_mbc_a | .de => .ld_mde_a | .hlInc => .ld_mhlInc_a | .hlDec => .ld_mhlDec_a

/-- `00 pp1 010` (R68). -/
def ldAIndInstr : R16Mem → Instr
  | .bc => .ld_a_mbc | .de => .ld_a_mde | .hlInc => .ld_a_mhlInc | .hlDec => .ld_a_mhlDec

/-- `00 pp0 001` (R68). -/
def ldPairInstr : R16 → Word → Instr
  | .bc, n16 => .ld_bc_n16 n16 | .de, n16 => .ld_de_n16 n16 | .hl, n16 => .ld_hl_n16 n16 | .sp, n16 => .ld_sp_n16 n16

/-- `11 pp0 101` (R68). -/
def pushInstr : R16Stk → Instr
  | .bc => .push_bc | .de => .push_de | .hl => .push_hl | .af => .push_af

/-- `11 pp0 001` (R68). -/
def popInstr : R16Stk → Instr
  | .bc => .pop_bc | .de => .pop_de | .hl => .pop_hl | .af => .pop_af

/-- `10 yyy zzz` (R68). -/
def aluInstr : AluOp → R8 → Instr
  | .add, .b => .add_a_b | .add, .c => .add_a_c | .add, .d => .add_a_d | .add, .e => .add_a_e
  | .add, .h => .add_a_h | .add, .l => .add_a_l | .add, .mhl => .add_a_mhl | .add, .a => .add_a_a
  | .adc, .b => .adc_a_b | .adc, .c => .adc_a_c | .adc, .d => .adc_a_d | .adc, .e => .adc_a_e
  | .adc, .h => .adc_a_h | .adc, .l => .adc_a_l | .adc, .mhl => .adc_a_mhl | .adc, .a => .adc_a_a
  | .sub, .b => .sub_b | .sub, .c => .sub_c | .sub, .d => .sub_d | .sub, .e => .sub_e
  | .sub, .h => .sub_h | .sub, .l => .sub_l | .sub, .mhl => .sub_mhl | .sub, .a => .sub_a
  | .sbc, .b => .sbc_a_b | .sbc, .c => .sbc_a_c | .sbc, .d => .sbc_a_d | .sbc, .e => .sbc_a_e
  | .sbc, .h => .sbc_a_h | .sbc, .l => .sbc_a_l | .sbc, .mhl => .sbc_a_mhl | .sbc, .a => .sbc_a_a
  | .and, .b => .and_b | .and, .c => .and_c | .and, .d => .and_d | .and, .e => .and_e
  | .and, .h => .and_h | .and, .l => .and_l | .and, .mhl => .and_mhl | .and, .a => .and_a
  | .xor, .b => .xor_b | .xor, .c => .xor_c | .xor, .d => .xor_d | .xor, .e => .xor_e
  | .xor, .h => .xor_h | .xor, .l => .xor_l | .xor, .mhl => .xor_mhl | .xor, .a => .xor_a
  | .or, .b => .or_b | .or, .c => .or_c | .or, .d => .or_d | .or, .e => .or_e
  | .or, .h => .or_h | .or, .l => .or_l | .or, .mhl => .or_mhl | .or, .a => .or_a
  | .cp, .b => .cp_b | .cp, .c => .cp_c | .cp, .d => .cp_d | .cp, .e => .cp_e
  | .cp, .h => .cp_h | .cp, .l => .cp_l | .cp, .mhl => .cp_mhl | .cp, .a => .cp_a

/-- `11 yyy 110` (R68). -/
def aluImmInstr : AluOp → Byte → Instr
  | .add, n8 => .add_a_n8 n8 | .adc, n8 => .adc_a_n8 n8 | .sub, n8 => .sub_n8 n8 | .sbc, n8 => .sbc_a_n8 n8
  | .and, n8 => .and_n8 n8 | .xor, n8 => .xor_n8 n8 | .or, n8 => .or_n8 n8 | .cp, n8 => .cp_n8 n8

/-- `00 yyy 100` (R68). -/
def incInstr : R8 → Instr
  | .b => .inc_b | .c => .inc_c | .d => .inc_d | .e => .inc_e
  | .h => .inc_h | .l => .inc_l | .mhl => .inc_mhl | .a => .inc_a

/-- `00 yyy 101` (R68). -/
def decInstr : R8 → Instr
  | .b => .dec_b | .c => .dec_c | .d => .dec_d | .e => .dec_e
  | .h => .dec_h | .l => .dec_l | .mhl => .dec_mhl | .a => .dec_a

/-- `00 pp1 001` (R68). -/
def addHlInstr : R16 → Instr
  | .bc => .add_hl_bc | .de => .add_hl_de | .hl => .add_hl_hl | .sp => .add_hl_sp

/-- `00 pp0 011` (R68). -/
def incPairInstr : R16 → Instr
  | .bc => .inc_bc | .de => .inc_de | .hl => .inc_hl | .sp => .inc_sp

/-- `00 pp1 011` (R68). -/
def decPairInstr : R16 → Instr
  | .bc => .dec_bc | .de => .dec_de | .hl => .dec_hl | .sp => .dec_sp

/-- x = 0, z = 7, y = 0..3 (R68). -/
def accRotInstr : AccRot → Instr
  | .rlca => .rlca | .rrca => .rrca | .rla => .rla | .rra => .rra

/-- Prefixed `00 yyy zzz` (R69). -/
def rotInstr : RotOp → R8 → Instr
  | .rlc, .b => .rlc_b | .rlc, .c => .rlc_c | .rlc, .d => .rlc_d | .rlc, .e => .rlc_e
  | .rlc, .h => .rlc_h | .rlc, .l => .rlc_l | .rlc, .mhl => .rlc_mhl | .rlc, .a => .rlc_a
  | .rrc, .b => .rrc_b | .rrc, .c => .rrc_c | .rrc, .d => .rrc_d | .rrc, .e => .rrc_e
  | .rrc, .h => .rrc_h | .rrc, .l => .rrc_l | .rrc, .mhl => .rrc_mhl | .rrc, .a => .rrc_a
  | .rl, .b => .rl_b | .rl, .c => .rl_c | .rl, .d => .rl_d | .rl, .e => .rl_e
  | .rl, .h => .rl_h | .rl, .l => .rl_l | .rl, .mhl => .rl_mhl | .rl, .a => .rl_a
  | .rr, .b => .rr_b | .rr, .c => .rr_c | .rr, .d => .rr_d | .rr, .e => .rr_e
  | .rr, .h => .rr_h | .rr, .l => .rr_l | .rr, .mhl => .rr_mhl | .rr, .a => .rr_a
  | .sla, .b => .sla_b | .sla, .c => .sla_c | .sla, .d => .sla_d | .sla, .e => .sla_e
  | .sla, .h => .sla_h | .sla, .l => .sla_l | .sla, .mhl => .sla_mhl | .sla, .a => .sla_a
  | .sra, .b => .sra_b | .sra, .c => .sra_c | .sra, .d => .sra_d | .sra, .e => .sra_e
  | .sra, .h => .sra_h | .sra, .l => .sra_l | .sra, .mhl => .sra_mhl | .sra, .a => .sra_a
  | .swap, .b => .swap_b | .swap, .c => .swap_c | .swap, .d => .swap_d | .swap, .e => .swap_e
  | .swap, .h => .swap_h | .swap, .l => .swap_l | .swap, .mhl => .swap_mhl | .swap, .a => .swap_a
  | .srl, .b => .srl_b | .srl, .c => .srl_c | .srl, .d => .srl_d | .srl, .e => .srl_e
  | .srl, .h => .srl_h | .srl, .l => .srl_l | .srl, .mhl => .srl_mhl | .srl, .a => .srl_a

/-- Prefixed `01 bbb zzz` (R69). -/
def bitInstr : Idx → R8 → Instr
  | .i0, .b => .bit_0_b | .i0, .c => .bit_0_c | .i0, .d => .bit_0_d | .i0, .e => .bit_0_e
  | .i0, .h => .bit_0_h | .i0, .l => .bit_0_l | .i0, .mhl => .bit_0_mhl | .i0, .a => .bit_0_a
  | .i1, .b => .bit_1_b | .i1, .c => .bit_1_c | .i1, .d => .bit_1_d | .i1, .e => .bit_1_e
  | .i1, .h => .bit_1_h | .i1, .l => .bit_1_l | .i1, .mhl => .bit_1_mhl | .i1, .a => .bit_1_a
  | .i2, .b => .bit_2_b | .i2, .c => .bit_2_c | .i2, .d => .bit_2_d | .i2, .e => .bit_2_e
  | .i2, .h => .bit_2_h | .i2, .l => .bit_2_l | .i2, .mhl => .bit_2_mhl | .i2, .a => .bit_2_a
  | .i3, .b => .bit_3_b | .i3, .c => .bit_3_c | .i3, .d => .bit_3_d | .i3, .e => .bit_3_e
  | .i3, .h => .bit_3_h | .i3, .l => .bit_3_l | .i3, .mhl => .bit_3_mhl | .i3, .a => .bit_3_a
  | .i4, .b => .bit_4_b | .i4, .c => .bit_4_c | .i4, .d => .bit_4_d | .i4, .e => .bit_4_e
  | .i4, .h => .bit_4_h | .i4, .l => .bit_4_l | .i4, .mhl => .bit_4_mhl | .i4, .a => .bit_4_a
  | .i5, .b => .bit_5_b | .i5, .c => .bit_5_c | .i5, .d => .bit_5_d | .i5, .e => .bit_5_e
  | .i5, .h => .bit_5_h | .i5, .l => .bit_5_l | .i5, .mhl => .bit_5_mhl | .i5, .a => .bit_5_a
  | .i6, .b => .bit_6_b | .i6, .c => .bit_6_c | .i6, .d => .bit_6_d | .i6, .e => .bit_6_e
  | .i6, .h => .bit_6_h | .i6, .l => .bit_6_l | .i6, .mhl => .bit_6_mhl | .i6, .a => .bit_6_a
  | .i7, .b => .bit_7_b | .i7, .c => .bit_7_c | .i7, .d => .bit_7_d | .i7, .e => .bit_7_e
  | .i7, .h => .bit_7_h | .i7, .l => .bit_7_l | .i7, .mhl => .bit_7_mhl | .i7, .a => .bit_7_a

/-- Prefixed `10 bbb zzz` (R69). -/
def resInstr : Idx → R8 → Instr
  | .i0, .b => .res_0_b | .i0, .c => .res_0_c | .i0, .d => .res_0_d | .i0, .e => .res_0_e
  | .i0, .h => .res_0_h | .i0, .l => .res_0_l | .i0, .mhl => .res_0_mhl | .i0, .a => .res_0_a
  | .i1, .b => .res_1_b | .i1, .c => .res_1_c | .i1, .d => .res_1_d | .i1, .e => .res_1_e
  | .i1, .h => .res_1_h | .i1, .l => .res_1_l | .i1, .mhl => .res_1_mhl | .i1, .a => .res_1_a
  | .i2, .b => .res_2_b | .i2, .c => .res_2_c | .i2, .d => .res_2_d | .i2, .e => .res_2_e
  | .i2, .h => .res_2_h | .i2, .l => .res_2_l | .i2, .mhl => .res_2_mhl | .i2, .a => .res_2_a
  | .i3, .b => .res_3_b | .i3, .c => .res_3_c | .i3, .d => .res_3_d | .i3, .e => .res_3_e
  | .i3, .h => .res_3_h | .i3, .l => .res_3_l | .i3, .mhl => .res_3_mhl | .i3, .a => .res_3_a
  | .i4, .b => .res_4_b | .i4, .c => .res_4_c | .i4, .d => .res_4_d | .i4, .e => .res_4_e
  | .i4, .h => .res_4_h | .i4, .l => .res_4_l | .i4, .mhl => .res_4_mhl | .i4, .a => .res_4_a
  | .i5, .b => .res_5_b | .i5, .c => .res_5_c | .i5, .d => .res_5_d | .i5, .e => .res_5_e
  | .i5, .h => .res_5_h | .i5, .l => .res_5_l | .i5, .mhl => .res_5_mhl | .i5, .a => .res_5_a
  | .i6, .b => .res_6_b | .i6, .c => .res_6_c | .i6, .d => .res_6_d | .i6, .e => .res_6_e
  | .i6, .h => .res_6_h | .i6, .l => .res_6_l | .i6, .mhl => .res_6_mhl | .i6, .a => .res_6_a
  | .i7, .b => .res_7_b | .i7, .c => .res_7_c | .i7, .d => .res_7_d | .i7, .e => .res_7_e
  | .i7, .h => .res_7_h | .i7, .l => .res_7_l | .i7, .mhl => .res_7_mhl | .i7, .a => .res_7_a

/-- Prefixed `11 bbb zzz` (R69). -/
def setInstr : Idx → R8 → Instr
  | .i0, .b => .set_0_b | .i0, .c => .set_0_c | .i0, .d => .set_0_d | .i0, .e => .set_0_e
  | .i0, .h => .set_0_h | .i0, .l => .set_0_l | .i0, .mhl => .set_0_mhl | .i0, .a => .set_0_a
  | .i1, .b => .set_1_b | .i1, .c => .set_1_c | .i1, .d => .set_1_d | .i1, .e => .set_1_e
  | .i1, .h => .set_1_h | .i1, .l => .set_1_l | .i1, .mhl => .set_1_mhl | .i1, .a => .set_1_a
  | .i2, .b => .set_2_b | .i2, .c => .set_2_c | .i2, .d => .set_2_d | .i2, .e => .set_2_e
  | .i2, .h => .set_2_h | .i2, .l => .set_2_l | .i2, .mhl => .set_2_mhl | .i2, .a => .set_2_a
  | .i3, .b => .set_3_b | .i3, .c => .set_3_c | .i3, .d => .set_3_d | .i3, .e => .set_3_e
  | .i3, .h => .set_3_h | .i3, .l => .set_3_l | .i3, .mhl => .set_3_mhl | .i3, .a => .set_3_a
  | .i4, .b => .set_4_b | .i4, .c => .set_4_c | .i4, .d => .set_4_d | .i4, .e => .set_4_e
  | .i4, .h => .set_4_h | .i4, .l => .set_4_l | .i4, .mhl => .set_4_mhl | .i4, .a => .set_4_a
  | .i5, .b => .set_5_b | .i5, .c => .set_5_c | .i5, .d => .set_5_d | .i5, .e => .set_5_e
  | .i5, .h => .set_5_h | .i5, .l => .set_5_l | .i5, .mhl => .set_5_mhl | .i5, .a => .set_5_a
  | .i6, .b => .set_6_b | .i6, .c => .set_6_c | .i6, .d => .set_6_d | .i6, .e => .set_6_e
  | .i6, .h => .set_6_h | .i6, .l => .set_6_l | .i6, .mhl => .set_6_mhl | .i6, .a => .set_6_a
  | .i7, .b => .set_7_b | .i7, .c => .set_7_c | .i7, .d => .set_7_d | .i7, .e => .set_7_e
  | .i7, .h => .set_7_h | .i7, .l => .set_7_l | .i7, .mhl => .set_7_mhl | .i7, .a => .set_7_a

/-- `11 0cc 010` (R68). -/
def jpCondInstr : Cond → Word → Instr
  | .nz, n16 => .jp_nz_n16 n16 | .z, n16 => .jp_z_n16 n16 | .nc, n16 => .jp_nc_n16 n16 | .c, n16 => .jp_c_n16 n16

/-- `00 1cc 000` (R68). -/
def jrCondInstr : Cond → Byte → Instr
  | .nz, e8 => .jr_nz_e8 e8 | .z, e8 => .jr_z_e8 e8 | .nc, e8 => .jr_nc_e8 e8 | .c, e8 => .jr_c_e8 e8

/-- `11 0cc 100` (R68). -/
def callCondInstr : Cond → Word → Instr
  | .nz, n16 => .call_nz_n16 n16 | .z, n16 => .call_z_n16 n16 | .nc, n16 => .call_nc_n16 n16 | .c, n16 => .call_c_n16 n16

/-- `11 0cc 000` (R68). -/
def retCondInstr : Cond → Instr
  | .nz => .ret_nz | .z => .ret_z | .nc => .ret_nc | .c => .ret_c

/-- `11 yyy 111` (R68). -/
def rstInstr : Idx → Instr
  | .i0 => .rst_00 | .i1 => .rst_08 | .i2 => .rst_10 | .i3 => .rst_18
  | .i4 => .rst_20 | .i5 => .rst_28 | .i6 => .rst_30 | .i7 => .rst_38

/-- The opcodes of R70 and R71. -/
def stopInstr : Stop → Instr
  | .stop => .stop | .daa => .daa | .halt => .halt | .d3 => .illegal_d3
  | .reti => .reti | .db => .illegal_db | .dd => .illegal_dd | .e3 => .illegal_e3
  | .e4 => .illegal_e4 | .eb => .illegal_eb | .ec => .illegal_ec | .ed => .illegal_ed
  | .di => .di | .f4 => .illegal_f4 | .ei => .ei | .fc => .illegal_fc
  | .fd => .illegal_fd

/-- The opcode-table row of a family with its operands. -/
def Form.instr : Form → Instr
  | .nop => .nop
  | .ld dst src => ldInstr dst src
  | .ldImm dst n => ldImmInstr dst n
  | .ldIndA m => ldIndAInstr m
  | .ldAInd m => ldAIndInstr m
  | .ldAAbs n => .ld_a_mn16 n
  | .ldAbsA n => .ld_mn16_a n
  | .ldhAC => .ldh_a_mc
  | .ldhCA => .ldh_mc_a
  | .ldhAImm n => .ldh_a_mn8 n
  | .ldhImmA n => .ldh_mn8_a n
  | .ldPair p n => ldPairInstr p n
  | .ldAbsSp n => .ld_mn16_sp n
  | .ldSpHl => .ld_sp_hl
  | .ldHlSpE e => .ld_hl_spe8 e
  | .push p => pushInstr p
  | .pop p => popInstr p
  | .alu op src => aluInstr op src
  | .aluImm op n => aluImmInstr op n
  | .inc r => incInstr r
  | .dec r => decInstr r
  | .cpl => .cpl
  | .scf => .scf
  | .ccf => .ccf
  | .addHl p => addHlInstr p
  | .incPair p => incPairInstr p
  | .decPair p => decPairInstr p
  | .addSp e => .add_sp_e8 e
  | .accRot k => accRotInstr k
  | .rot k r => rotInstr k r
  | .bit b r => bitInstr b r
  | .res b r => resInstr b r
  | .set b r => setInstr b r
  | .jp n => .jp_n16 n
  | .jpCond cc n => jpCondInstr cc n
  | .jpHl => .jp_hl
  | .jr e => .jr_e8 e
  | .jrCond cc e => jrCondInstr cc e
  | .call n => .call_n16 n
  | .callCond cc n => callCondInstr cc n
  | .ret => .ret
  | .retCond cc => retCondInstr cc
  | .rst v => rstInstr v
  | .stops k => stopInstr k
  | .escape op2 => .escape_cb op2

/-! ### Decoding (R60, R61, R66 to R69) -/

/-- Why a byte string is no instruction: nothing there, or too few bytes for the opcode byte `op`. Every complete byte
string is an instruction, since "both tables are total" (R67). -/
inductive Reject
  | empty
  | truncated (op : Byte)
  deriving DecidableEq, Repr

/-- What the decoder answers: an instruction with the bytes after it, or a rejection by name. -/
inductive Decoded
  | instr (i : Instr) (rest : List Byte)
  | reject (why : Reject)
  deriving DecidableEq, Repr

/-- The family of a prefixed opcode byte (R69). -/
def prefixedForm (op2 : Byte) : Form :=
  match fieldX op2 with
  | 0 => .rot (RotOp.ofField (fieldY op2)) (R8.ofField (fieldZ op2))
  | 1 => .bit (Idx.ofField (fieldY op2)) (R8.ofField (fieldZ op2))
  | 2 => .res (Idx.ofField (fieldY op2)) (R8.ofField (fieldZ op2))
  | _ => .set (Idx.ofField (fieldY op2)) (R8.ofField (fieldZ op2))

/-- An instruction without immediate bytes: formats F1 and FCB (R61). -/
def noImm (f : Form) (rest : List Byte) : Decoded := .instr f.instr rest

/-- An instruction with one immediate byte: formats F2N and F2E (R61, R66). -/
def withByte (op : Byte) (f : Byte → Form) : List Byte → Decoded
  | n :: rest => .instr (f n).instr rest
  | [] => .reject (.truncated op)

/-- An instruction with a 16-bit immediate, low byte first: format F3 (R61, R66; 20_memory.md R45). -/
def withWord (op : Byte) (f : Word → Form) : List Byte → Decoded
  | lo :: hi :: rest => .instr (f (wordOf hi lo)).instr rest
  | _ => .reject (.truncated op)

/-- The escape byte: the next byte, whatever its value, is a prefixed opcode (R67). -/
def afterEscape (op : Byte) : List Byte → Decoded
  | op2 :: rest => .instr (prefixedForm op2).instr rest
  | [] => .reject (.truncated op)

/-- Quarter x = 0 of the base space (R68). -/
def decodeX0 (op : Byte) (rest : List Byte) : Decoded :=
  let y := fieldY op
  let p := fieldP op
  match fieldZ op with
  | 0 =>
    match y with
    | 0 => noImm .nop rest
    | 1 => withWord op .ldAbsSp rest
    | 2 => noImm (.stops .stop) rest
    | 3 => withByte op .jr rest
    | _ => withByte op (.jrCond (Cond.ofField (y - 4))) rest
  | 1 =>
    match fieldQ op with
    | 0 => withWord op (.ldPair (R16.ofField p)) rest
    | _ => noImm (.addHl (R16.ofField p)) rest
  | 2 =>
    match fieldQ op with
    | 0 => noImm (.ldIndA (R16Mem.ofField p)) rest
    | _ => noImm (.ldAInd (R16Mem.ofField p)) rest
  | 3 =>
    match fieldQ op with
    | 0 => noImm (.incPair (R16.ofField p)) rest
    | _ => noImm (.decPair (R16.ofField p)) rest
  | 4 => noImm (.inc (R8.ofField y)) rest
  | 5 => noImm (.dec (R8.ofField y)) rest
  | 6 => withByte op (.ldImm (R8.ofField y)) rest
  | _ =>
    match y with
    | 4 => noImm (.stops .daa) rest
    | 5 => noImm .cpl rest
    | 6 => noImm .scf rest
    | 7 => noImm .ccf rest
    | _ => noImm (.accRot (AccRot.ofField y)) rest

/-- Quarter x = 1 of the base space: the loads, and HALT where both fields are 6 (R68, R70). -/
def decodeX1 (op : Byte) (rest : List Byte) : Decoded :=
  noImm (.ld (R8.ofField (fieldY op)) (R8.ofField (fieldZ op))) rest

/-- Quarter x = 2 of the base space: the ALU operations (R68). -/
def decodeX2 (op : Byte) (rest : List Byte) : Decoded :=
  noImm (.alu (AluOp.ofField (fieldY op)) (R8.ofField (fieldZ op))) rest

/-- Quarter x = 3 of the base space (R68, R70, R71). -/
def decodeX3 (op : Byte) (rest : List Byte) : Decoded :=
  let y := fieldY op
  let p := fieldP op
  match fieldZ op with
  | 0 =>
    match y with
    | 4 => withByte op .ldhImmA rest
    | 5 => withByte op .addSp rest
    | 6 => withByte op .ldhAImm rest
    | 7 => withByte op .ldHlSpE rest
    | _ => noImm (.retCond (Cond.ofField y)) rest
  | 1 =>
    match fieldQ op, p with
    | 0, _ => noImm (.pop (R16Stk.ofField p)) rest
    | _, 0 => noImm .ret rest
    | _, 1 => noImm (.stops .reti) rest
    | _, 2 => noImm .jpHl rest
    | _, _ => noImm .ldSpHl rest
  | 2 =>
    match y with
    | 4 => noImm .ldhCA rest
    | 5 => withWord op .ldAbsA rest
    | 6 => noImm .ldhAC rest
    | 7 => withWord op .ldAAbs rest
    | _ => withWord op (.jpCond (Cond.ofField y)) rest
  | 3 =>
    match y with
    | 0 => withWord op .jp rest
    | 1 => afterEscape op rest
    | 2 => noImm (.stops .d3) rest
    | 3 => noImm (.stops .db) rest
    | 4 => noImm (.stops .e3) rest
    | 5 => noImm (.stops .eb) rest
    | 6 => noImm (.stops .di) rest
    | _ => noImm (.stops .ei) rest
  | 4 =>
    match y with
    | 4 => noImm (.stops .e4) rest
    | 5 => noImm (.stops .ec) rest
    | 6 => noImm (.stops .f4) rest
    | 7 => noImm (.stops .fc) rest
    | _ => withWord op (.callCond (Cond.ofField y)) rest
  | 5 =>
    match fieldQ op, p with
    | 0, _ => noImm (.push (R16Stk.ofField p)) rest
    | _, 0 => withWord op .call rest
    | _, 1 => noImm (.stops .dd) rest
    | _, 2 => noImm (.stops .ed) rest
    | _, _ => noImm (.stops .fd) rest
  | 6 => withByte op (.aluImm (AluOp.ofField y)) rest
  | _ => noImm (.rst (Idx.ofField y)) rest

/-- The decoder, total on byte strings: the first instruction and the bytes after it, or a rejection by name (R67). -/
def decode : List Byte → Decoded
  | [] => .reject .empty
  | op :: rest =>
    match fieldX op with
    | 0 => decodeX0 op rest
    | 1 => decodeX1 op rest
    | 2 => decodeX2 op rest
    | _ => decodeX3 op rest

/-- The length of an instruction in bytes, fixed by its first byte (R60; the formats of R61 as R68 assigns them). -/
def instrLength (op : Byte) : Nat :=
  let y := fieldY op
  match fieldX op, fieldZ op with
  | 0, 0 => if y = 1 then 3 else if y ≥ 3 then 2 else 1
  | 0, 1 => if fieldQ op = 0 then 3 else 1
  | 0, 6 => 2
  | 3, 0 => if y ≥ 4 then 2 else 1
  | 3, 2 => if y = 4 ∨ y = 6 then 1 else 3
  | 3, 3 => if y = 0 then 3 else if y = 1 then 2 else 1
  | 3, 4 => if y ≤ 3 then 3 else 1
  | 3, 5 => if y = 1 then 3 else 1
  | 3, 6 => 2
  | _, _ => 1

/-! ### The host's reading of opcode_table.json -/

/-- The bytes, lowest address first, of an instruction whose bits the table numbers as `w`: three of them, the longest
instruction's length, zeros above the table's bits. A row of the prefixed space is numbered over byte0:byte1 with byte 0
(the escape byte) in bits 15..8 (R77); every other row has its first byte in bits 7..0 (log entry 8). -/
def tableWordBytes (nbits w : Nat) : List Byte :=
  if nbits = 16 ∧ w / 256 % 256 = 0xCB then [0xCB#8, BitVec.ofNat 8 w, 0#8]
  else [BitVec.ofNat 8 w, BitVec.ofNat 8 (w / 256), BitVec.ofNat 8 (w / 65536)]

/-- The instruction the decoder reads from the bits of a table row. -/
def decodeTableWord (nbits w : Nat) : Option Instr :=
  match decode (tableWordBytes nbits w) with
  | .instr i _ => some i
  | .reject _ => none

/-! ### Encoding, by the rows of the opcode table (R61, R77) -/

/-- The bytes of an instruction, lowest address first. -/
def encode : Instr → List Byte
  | .nop => [0x00#8] | .ld_bc_n16 n16 => [0x01#8, loByte n16, hiByte n16] | .ld_mbc_a => [0x02#8] | .inc_bc => [0x03#8]
  | .inc_b => [0x04#8] | .dec_b => [0x05#8] | .ld_b_n8 n8 => [0x06#8, n8] | .rlca => [0x07#8]
  | .ld_mn16_sp n16 => [0x08#8, loByte n16, hiByte n16] | .add_hl_bc => [0x09#8] | .ld_a_mbc => [0x0A#8] | .dec_bc => [0x0B#8]
  | .inc_c => [0x0C#8] | .dec_c => [0x0D#8] | .ld_c_n8 n8 => [0x0E#8, n8] | .rrca => [0x0F#8]
  | .stop => [0x10#8] | .ld_de_n16 n16 => [0x11#8, loByte n16, hiByte n16] | .ld_mde_a => [0x12#8] | .inc_de => [0x13#8]
  | .inc_d => [0x14#8] | .dec_d => [0x15#8] | .ld_d_n8 n8 => [0x16#8, n8] | .rla => [0x17#8]
  | .jr_e8 e8 => [0x18#8, e8] | .add_hl_de => [0x19#8] | .ld_a_mde => [0x1A#8] | .dec_de => [0x1B#8]
  | .inc_e => [0x1C#8] | .dec_e => [0x1D#8] | .ld_e_n8 n8 => [0x1E#8, n8] | .rra => [0x1F#8]
  | .jr_nz_e8 e8 => [0x20#8, e8] | .ld_hl_n16 n16 => [0x21#8, loByte n16, hiByte n16] | .ld_mhlInc_a => [0x22#8] | .inc_hl => [0x23#8]
  | .inc_h => [0x24#8] | .dec_h => [0x25#8] | .ld_h_n8 n8 => [0x26#8, n8] | .daa => [0x27#8]
  | .jr_z_e8 e8 => [0x28#8, e8] | .add_hl_hl => [0x29#8] | .ld_a_mhlInc => [0x2A#8] | .dec_hl => [0x2B#8]
  | .inc_l => [0x2C#8] | .dec_l => [0x2D#8] | .ld_l_n8 n8 => [0x2E#8, n8] | .cpl => [0x2F#8]
  | .jr_nc_e8 e8 => [0x30#8, e8] | .ld_sp_n16 n16 => [0x31#8, loByte n16, hiByte n16] | .ld_mhlDec_a => [0x32#8] | .inc_sp => [0x33#8]
  | .inc_mhl => [0x34#8] | .dec_mhl => [0x35#8] | .ld_mhl_n8 n8 => [0x36#8, n8] | .scf => [0x37#8]
  | .jr_c_e8 e8 => [0x38#8, e8] | .add_hl_sp => [0x39#8] | .ld_a_mhlDec => [0x3A#8] | .dec_sp => [0x3B#8]
  | .inc_a => [0x3C#8] | .dec_a => [0x3D#8] | .ld_a_n8 n8 => [0x3E#8, n8] | .ccf => [0x3F#8]
  | .ld_b_b => [0x40#8] | .ld_b_c => [0x41#8] | .ld_b_d => [0x42#8] | .ld_b_e => [0x43#8]
  | .ld_b_h => [0x44#8] | .ld_b_l => [0x45#8] | .ld_b_mhl => [0x46#8] | .ld_b_a => [0x47#8]
  | .ld_c_b => [0x48#8] | .ld_c_c => [0x49#8] | .ld_c_d => [0x4A#8] | .ld_c_e => [0x4B#8]
  | .ld_c_h => [0x4C#8] | .ld_c_l => [0x4D#8] | .ld_c_mhl => [0x4E#8] | .ld_c_a => [0x4F#8]
  | .ld_d_b => [0x50#8] | .ld_d_c => [0x51#8] | .ld_d_d => [0x52#8] | .ld_d_e => [0x53#8]
  | .ld_d_h => [0x54#8] | .ld_d_l => [0x55#8] | .ld_d_mhl => [0x56#8] | .ld_d_a => [0x57#8]
  | .ld_e_b => [0x58#8] | .ld_e_c => [0x59#8] | .ld_e_d => [0x5A#8] | .ld_e_e => [0x5B#8]
  | .ld_e_h => [0x5C#8] | .ld_e_l => [0x5D#8] | .ld_e_mhl => [0x5E#8] | .ld_e_a => [0x5F#8]
  | .ld_h_b => [0x60#8] | .ld_h_c => [0x61#8] | .ld_h_d => [0x62#8] | .ld_h_e => [0x63#8]
  | .ld_h_h => [0x64#8] | .ld_h_l => [0x65#8] | .ld_h_mhl => [0x66#8] | .ld_h_a => [0x67#8]
  | .ld_l_b => [0x68#8] | .ld_l_c => [0x69#8] | .ld_l_d => [0x6A#8] | .ld_l_e => [0x6B#8]
  | .ld_l_h => [0x6C#8] | .ld_l_l => [0x6D#8] | .ld_l_mhl => [0x6E#8] | .ld_l_a => [0x6F#8]
  | .ld_mhl_b => [0x70#8] | .ld_mhl_c => [0x71#8] | .ld_mhl_d => [0x72#8] | .ld_mhl_e => [0x73#8]
  | .ld_mhl_h => [0x74#8] | .ld_mhl_l => [0x75#8] | .halt => [0x76#8] | .ld_mhl_a => [0x77#8]
  | .ld_a_b => [0x78#8] | .ld_a_c => [0x79#8] | .ld_a_d => [0x7A#8] | .ld_a_e => [0x7B#8]
  | .ld_a_h => [0x7C#8] | .ld_a_l => [0x7D#8] | .ld_a_mhl => [0x7E#8] | .ld_a_a => [0x7F#8]
  | .add_a_b => [0x80#8] | .add_a_c => [0x81#8] | .add_a_d => [0x82#8] | .add_a_e => [0x83#8]
  | .add_a_h => [0x84#8] | .add_a_l => [0x85#8] | .add_a_mhl => [0x86#8] | .add_a_a => [0x87#8]
  | .adc_a_b => [0x88#8] | .adc_a_c => [0x89#8] | .adc_a_d => [0x8A#8] | .adc_a_e => [0x8B#8]
  | .adc_a_h => [0x8C#8] | .adc_a_l => [0x8D#8] | .adc_a_mhl => [0x8E#8] | .adc_a_a => [0x8F#8]
  | .sub_b => [0x90#8] | .sub_c => [0x91#8] | .sub_d => [0x92#8] | .sub_e => [0x93#8]
  | .sub_h => [0x94#8] | .sub_l => [0x95#8] | .sub_mhl => [0x96#8] | .sub_a => [0x97#8]
  | .sbc_a_b => [0x98#8] | .sbc_a_c => [0x99#8] | .sbc_a_d => [0x9A#8] | .sbc_a_e => [0x9B#8]
  | .sbc_a_h => [0x9C#8] | .sbc_a_l => [0x9D#8] | .sbc_a_mhl => [0x9E#8] | .sbc_a_a => [0x9F#8]
  | .and_b => [0xA0#8] | .and_c => [0xA1#8] | .and_d => [0xA2#8] | .and_e => [0xA3#8]
  | .and_h => [0xA4#8] | .and_l => [0xA5#8] | .and_mhl => [0xA6#8] | .and_a => [0xA7#8]
  | .xor_b => [0xA8#8] | .xor_c => [0xA9#8] | .xor_d => [0xAA#8] | .xor_e => [0xAB#8]
  | .xor_h => [0xAC#8] | .xor_l => [0xAD#8] | .xor_mhl => [0xAE#8] | .xor_a => [0xAF#8]
  | .or_b => [0xB0#8] | .or_c => [0xB1#8] | .or_d => [0xB2#8] | .or_e => [0xB3#8]
  | .or_h => [0xB4#8] | .or_l => [0xB5#8] | .or_mhl => [0xB6#8] | .or_a => [0xB7#8]
  | .cp_b => [0xB8#8] | .cp_c => [0xB9#8] | .cp_d => [0xBA#8] | .cp_e => [0xBB#8]
  | .cp_h => [0xBC#8] | .cp_l => [0xBD#8] | .cp_mhl => [0xBE#8] | .cp_a => [0xBF#8]
  | .ret_nz => [0xC0#8] | .pop_bc => [0xC1#8] | .jp_nz_n16 n16 => [0xC2#8, loByte n16, hiByte n16] | .jp_n16 n16 => [0xC3#8, loByte n16, hiByte n16]
  | .call_nz_n16 n16 => [0xC4#8, loByte n16, hiByte n16] | .push_bc => [0xC5#8] | .add_a_n8 n8 => [0xC6#8, n8] | .rst_00 => [0xC7#8]
  | .ret_z => [0xC8#8] | .ret => [0xC9#8] | .jp_z_n16 n16 => [0xCA#8, loByte n16, hiByte n16] | .escape_cb op2 => [0xCB#8, op2]
  | .call_z_n16 n16 => [0xCC#8, loByte n16, hiByte n16] | .call_n16 n16 => [0xCD#8, loByte n16, hiByte n16] | .adc_a_n8 n8 => [0xCE#8, n8] | .rst_08 => [0xCF#8]
  | .ret_nc => [0xD0#8] | .pop_de => [0xD1#8] | .jp_nc_n16 n16 => [0xD2#8, loByte n16, hiByte n16] | .illegal_d3 => [0xD3#8]
  | .call_nc_n16 n16 => [0xD4#8, loByte n16, hiByte n16] | .push_de => [0xD5#8] | .sub_n8 n8 => [0xD6#8, n8] | .rst_10 => [0xD7#8]
  | .ret_c => [0xD8#8] | .reti => [0xD9#8] | .jp_c_n16 n16 => [0xDA#8, loByte n16, hiByte n16] | .illegal_db => [0xDB#8]
  | .call_c_n16 n16 => [0xDC#8, loByte n16, hiByte n16] | .illegal_dd => [0xDD#8] | .sbc_a_n8 n8 => [0xDE#8, n8] | .rst_18 => [0xDF#8]
  | .ldh_mn8_a n8 => [0xE0#8, n8] | .pop_hl => [0xE1#8] | .ldh_mc_a => [0xE2#8] | .illegal_e3 => [0xE3#8]
  | .illegal_e4 => [0xE4#8] | .push_hl => [0xE5#8] | .and_n8 n8 => [0xE6#8, n8] | .rst_20 => [0xE7#8]
  | .add_sp_e8 e8 => [0xE8#8, e8] | .jp_hl => [0xE9#8] | .ld_mn16_a n16 => [0xEA#8, loByte n16, hiByte n16] | .illegal_eb => [0xEB#8]
  | .illegal_ec => [0xEC#8] | .illegal_ed => [0xED#8] | .xor_n8 n8 => [0xEE#8, n8] | .rst_28 => [0xEF#8]
  | .ldh_a_mn8 n8 => [0xF0#8, n8] | .pop_af => [0xF1#8] | .ldh_a_mc => [0xF2#8] | .di => [0xF3#8]
  | .illegal_f4 => [0xF4#8] | .push_af => [0xF5#8] | .or_n8 n8 => [0xF6#8, n8] | .rst_30 => [0xF7#8]
  | .ld_hl_spe8 e8 => [0xF8#8, e8] | .ld_sp_hl => [0xF9#8] | .ld_a_mn16 n16 => [0xFA#8, loByte n16, hiByte n16] | .ei => [0xFB#8]
  | .illegal_fc => [0xFC#8] | .illegal_fd => [0xFD#8] | .cp_n8 n8 => [0xFE#8, n8] | .rst_38 => [0xFF#8]
  | .rlc_b => [0xCB#8, 0x00#8] | .rlc_c => [0xCB#8, 0x01#8] | .rlc_d => [0xCB#8, 0x02#8] | .rlc_e => [0xCB#8, 0x03#8]
  | .rlc_h => [0xCB#8, 0x04#8] | .rlc_l => [0xCB#8, 0x05#8] | .rlc_mhl => [0xCB#8, 0x06#8] | .rlc_a => [0xCB#8, 0x07#8]
  | .rrc_b => [0xCB#8, 0x08#8] | .rrc_c => [0xCB#8, 0x09#8] | .rrc_d => [0xCB#8, 0x0A#8] | .rrc_e => [0xCB#8, 0x0B#8]
  | .rrc_h => [0xCB#8, 0x0C#8] | .rrc_l => [0xCB#8, 0x0D#8] | .rrc_mhl => [0xCB#8, 0x0E#8] | .rrc_a => [0xCB#8, 0x0F#8]
  | .rl_b => [0xCB#8, 0x10#8] | .rl_c => [0xCB#8, 0x11#8] | .rl_d => [0xCB#8, 0x12#8] | .rl_e => [0xCB#8, 0x13#8]
  | .rl_h => [0xCB#8, 0x14#8] | .rl_l => [0xCB#8, 0x15#8] | .rl_mhl => [0xCB#8, 0x16#8] | .rl_a => [0xCB#8, 0x17#8]
  | .rr_b => [0xCB#8, 0x18#8] | .rr_c => [0xCB#8, 0x19#8] | .rr_d => [0xCB#8, 0x1A#8] | .rr_e => [0xCB#8, 0x1B#8]
  | .rr_h => [0xCB#8, 0x1C#8] | .rr_l => [0xCB#8, 0x1D#8] | .rr_mhl => [0xCB#8, 0x1E#8] | .rr_a => [0xCB#8, 0x1F#8]
  | .sla_b => [0xCB#8, 0x20#8] | .sla_c => [0xCB#8, 0x21#8] | .sla_d => [0xCB#8, 0x22#8] | .sla_e => [0xCB#8, 0x23#8]
  | .sla_h => [0xCB#8, 0x24#8] | .sla_l => [0xCB#8, 0x25#8] | .sla_mhl => [0xCB#8, 0x26#8] | .sla_a => [0xCB#8, 0x27#8]
  | .sra_b => [0xCB#8, 0x28#8] | .sra_c => [0xCB#8, 0x29#8] | .sra_d => [0xCB#8, 0x2A#8] | .sra_e => [0xCB#8, 0x2B#8]
  | .sra_h => [0xCB#8, 0x2C#8] | .sra_l => [0xCB#8, 0x2D#8] | .sra_mhl => [0xCB#8, 0x2E#8] | .sra_a => [0xCB#8, 0x2F#8]
  | .swap_b => [0xCB#8, 0x30#8] | .swap_c => [0xCB#8, 0x31#8] | .swap_d => [0xCB#8, 0x32#8] | .swap_e => [0xCB#8, 0x33#8]
  | .swap_h => [0xCB#8, 0x34#8] | .swap_l => [0xCB#8, 0x35#8] | .swap_mhl => [0xCB#8, 0x36#8] | .swap_a => [0xCB#8, 0x37#8]
  | .srl_b => [0xCB#8, 0x38#8] | .srl_c => [0xCB#8, 0x39#8] | .srl_d => [0xCB#8, 0x3A#8] | .srl_e => [0xCB#8, 0x3B#8]
  | .srl_h => [0xCB#8, 0x3C#8] | .srl_l => [0xCB#8, 0x3D#8] | .srl_mhl => [0xCB#8, 0x3E#8] | .srl_a => [0xCB#8, 0x3F#8]
  | .bit_0_b => [0xCB#8, 0x40#8] | .bit_0_c => [0xCB#8, 0x41#8] | .bit_0_d => [0xCB#8, 0x42#8] | .bit_0_e => [0xCB#8, 0x43#8]
  | .bit_0_h => [0xCB#8, 0x44#8] | .bit_0_l => [0xCB#8, 0x45#8] | .bit_0_mhl => [0xCB#8, 0x46#8] | .bit_0_a => [0xCB#8, 0x47#8]
  | .bit_1_b => [0xCB#8, 0x48#8] | .bit_1_c => [0xCB#8, 0x49#8] | .bit_1_d => [0xCB#8, 0x4A#8] | .bit_1_e => [0xCB#8, 0x4B#8]
  | .bit_1_h => [0xCB#8, 0x4C#8] | .bit_1_l => [0xCB#8, 0x4D#8] | .bit_1_mhl => [0xCB#8, 0x4E#8] | .bit_1_a => [0xCB#8, 0x4F#8]
  | .bit_2_b => [0xCB#8, 0x50#8] | .bit_2_c => [0xCB#8, 0x51#8] | .bit_2_d => [0xCB#8, 0x52#8] | .bit_2_e => [0xCB#8, 0x53#8]
  | .bit_2_h => [0xCB#8, 0x54#8] | .bit_2_l => [0xCB#8, 0x55#8] | .bit_2_mhl => [0xCB#8, 0x56#8] | .bit_2_a => [0xCB#8, 0x57#8]
  | .bit_3_b => [0xCB#8, 0x58#8] | .bit_3_c => [0xCB#8, 0x59#8] | .bit_3_d => [0xCB#8, 0x5A#8] | .bit_3_e => [0xCB#8, 0x5B#8]
  | .bit_3_h => [0xCB#8, 0x5C#8] | .bit_3_l => [0xCB#8, 0x5D#8] | .bit_3_mhl => [0xCB#8, 0x5E#8] | .bit_3_a => [0xCB#8, 0x5F#8]
  | .bit_4_b => [0xCB#8, 0x60#8] | .bit_4_c => [0xCB#8, 0x61#8] | .bit_4_d => [0xCB#8, 0x62#8] | .bit_4_e => [0xCB#8, 0x63#8]
  | .bit_4_h => [0xCB#8, 0x64#8] | .bit_4_l => [0xCB#8, 0x65#8] | .bit_4_mhl => [0xCB#8, 0x66#8] | .bit_4_a => [0xCB#8, 0x67#8]
  | .bit_5_b => [0xCB#8, 0x68#8] | .bit_5_c => [0xCB#8, 0x69#8] | .bit_5_d => [0xCB#8, 0x6A#8] | .bit_5_e => [0xCB#8, 0x6B#8]
  | .bit_5_h => [0xCB#8, 0x6C#8] | .bit_5_l => [0xCB#8, 0x6D#8] | .bit_5_mhl => [0xCB#8, 0x6E#8] | .bit_5_a => [0xCB#8, 0x6F#8]
  | .bit_6_b => [0xCB#8, 0x70#8] | .bit_6_c => [0xCB#8, 0x71#8] | .bit_6_d => [0xCB#8, 0x72#8] | .bit_6_e => [0xCB#8, 0x73#8]
  | .bit_6_h => [0xCB#8, 0x74#8] | .bit_6_l => [0xCB#8, 0x75#8] | .bit_6_mhl => [0xCB#8, 0x76#8] | .bit_6_a => [0xCB#8, 0x77#8]
  | .bit_7_b => [0xCB#8, 0x78#8] | .bit_7_c => [0xCB#8, 0x79#8] | .bit_7_d => [0xCB#8, 0x7A#8] | .bit_7_e => [0xCB#8, 0x7B#8]
  | .bit_7_h => [0xCB#8, 0x7C#8] | .bit_7_l => [0xCB#8, 0x7D#8] | .bit_7_mhl => [0xCB#8, 0x7E#8] | .bit_7_a => [0xCB#8, 0x7F#8]
  | .res_0_b => [0xCB#8, 0x80#8] | .res_0_c => [0xCB#8, 0x81#8] | .res_0_d => [0xCB#8, 0x82#8] | .res_0_e => [0xCB#8, 0x83#8]
  | .res_0_h => [0xCB#8, 0x84#8] | .res_0_l => [0xCB#8, 0x85#8] | .res_0_mhl => [0xCB#8, 0x86#8] | .res_0_a => [0xCB#8, 0x87#8]
  | .res_1_b => [0xCB#8, 0x88#8] | .res_1_c => [0xCB#8, 0x89#8] | .res_1_d => [0xCB#8, 0x8A#8] | .res_1_e => [0xCB#8, 0x8B#8]
  | .res_1_h => [0xCB#8, 0x8C#8] | .res_1_l => [0xCB#8, 0x8D#8] | .res_1_mhl => [0xCB#8, 0x8E#8] | .res_1_a => [0xCB#8, 0x8F#8]
  | .res_2_b => [0xCB#8, 0x90#8] | .res_2_c => [0xCB#8, 0x91#8] | .res_2_d => [0xCB#8, 0x92#8] | .res_2_e => [0xCB#8, 0x93#8]
  | .res_2_h => [0xCB#8, 0x94#8] | .res_2_l => [0xCB#8, 0x95#8] | .res_2_mhl => [0xCB#8, 0x96#8] | .res_2_a => [0xCB#8, 0x97#8]
  | .res_3_b => [0xCB#8, 0x98#8] | .res_3_c => [0xCB#8, 0x99#8] | .res_3_d => [0xCB#8, 0x9A#8] | .res_3_e => [0xCB#8, 0x9B#8]
  | .res_3_h => [0xCB#8, 0x9C#8] | .res_3_l => [0xCB#8, 0x9D#8] | .res_3_mhl => [0xCB#8, 0x9E#8] | .res_3_a => [0xCB#8, 0x9F#8]
  | .res_4_b => [0xCB#8, 0xA0#8] | .res_4_c => [0xCB#8, 0xA1#8] | .res_4_d => [0xCB#8, 0xA2#8] | .res_4_e => [0xCB#8, 0xA3#8]
  | .res_4_h => [0xCB#8, 0xA4#8] | .res_4_l => [0xCB#8, 0xA5#8] | .res_4_mhl => [0xCB#8, 0xA6#8] | .res_4_a => [0xCB#8, 0xA7#8]
  | .res_5_b => [0xCB#8, 0xA8#8] | .res_5_c => [0xCB#8, 0xA9#8] | .res_5_d => [0xCB#8, 0xAA#8] | .res_5_e => [0xCB#8, 0xAB#8]
  | .res_5_h => [0xCB#8, 0xAC#8] | .res_5_l => [0xCB#8, 0xAD#8] | .res_5_mhl => [0xCB#8, 0xAE#8] | .res_5_a => [0xCB#8, 0xAF#8]
  | .res_6_b => [0xCB#8, 0xB0#8] | .res_6_c => [0xCB#8, 0xB1#8] | .res_6_d => [0xCB#8, 0xB2#8] | .res_6_e => [0xCB#8, 0xB3#8]
  | .res_6_h => [0xCB#8, 0xB4#8] | .res_6_l => [0xCB#8, 0xB5#8] | .res_6_mhl => [0xCB#8, 0xB6#8] | .res_6_a => [0xCB#8, 0xB7#8]
  | .res_7_b => [0xCB#8, 0xB8#8] | .res_7_c => [0xCB#8, 0xB9#8] | .res_7_d => [0xCB#8, 0xBA#8] | .res_7_e => [0xCB#8, 0xBB#8]
  | .res_7_h => [0xCB#8, 0xBC#8] | .res_7_l => [0xCB#8, 0xBD#8] | .res_7_mhl => [0xCB#8, 0xBE#8] | .res_7_a => [0xCB#8, 0xBF#8]
  | .set_0_b => [0xCB#8, 0xC0#8] | .set_0_c => [0xCB#8, 0xC1#8] | .set_0_d => [0xCB#8, 0xC2#8] | .set_0_e => [0xCB#8, 0xC3#8]
  | .set_0_h => [0xCB#8, 0xC4#8] | .set_0_l => [0xCB#8, 0xC5#8] | .set_0_mhl => [0xCB#8, 0xC6#8] | .set_0_a => [0xCB#8, 0xC7#8]
  | .set_1_b => [0xCB#8, 0xC8#8] | .set_1_c => [0xCB#8, 0xC9#8] | .set_1_d => [0xCB#8, 0xCA#8] | .set_1_e => [0xCB#8, 0xCB#8]
  | .set_1_h => [0xCB#8, 0xCC#8] | .set_1_l => [0xCB#8, 0xCD#8] | .set_1_mhl => [0xCB#8, 0xCE#8] | .set_1_a => [0xCB#8, 0xCF#8]
  | .set_2_b => [0xCB#8, 0xD0#8] | .set_2_c => [0xCB#8, 0xD1#8] | .set_2_d => [0xCB#8, 0xD2#8] | .set_2_e => [0xCB#8, 0xD3#8]
  | .set_2_h => [0xCB#8, 0xD4#8] | .set_2_l => [0xCB#8, 0xD5#8] | .set_2_mhl => [0xCB#8, 0xD6#8] | .set_2_a => [0xCB#8, 0xD7#8]
  | .set_3_b => [0xCB#8, 0xD8#8] | .set_3_c => [0xCB#8, 0xD9#8] | .set_3_d => [0xCB#8, 0xDA#8] | .set_3_e => [0xCB#8, 0xDB#8]
  | .set_3_h => [0xCB#8, 0xDC#8] | .set_3_l => [0xCB#8, 0xDD#8] | .set_3_mhl => [0xCB#8, 0xDE#8] | .set_3_a => [0xCB#8, 0xDF#8]
  | .set_4_b => [0xCB#8, 0xE0#8] | .set_4_c => [0xCB#8, 0xE1#8] | .set_4_d => [0xCB#8, 0xE2#8] | .set_4_e => [0xCB#8, 0xE3#8]
  | .set_4_h => [0xCB#8, 0xE4#8] | .set_4_l => [0xCB#8, 0xE5#8] | .set_4_mhl => [0xCB#8, 0xE6#8] | .set_4_a => [0xCB#8, 0xE7#8]
  | .set_5_b => [0xCB#8, 0xE8#8] | .set_5_c => [0xCB#8, 0xE9#8] | .set_5_d => [0xCB#8, 0xEA#8] | .set_5_e => [0xCB#8, 0xEB#8]
  | .set_5_h => [0xCB#8, 0xEC#8] | .set_5_l => [0xCB#8, 0xED#8] | .set_5_mhl => [0xCB#8, 0xEE#8] | .set_5_a => [0xCB#8, 0xEF#8]
  | .set_6_b => [0xCB#8, 0xF0#8] | .set_6_c => [0xCB#8, 0xF1#8] | .set_6_d => [0xCB#8, 0xF2#8] | .set_6_e => [0xCB#8, 0xF3#8]
  | .set_6_h => [0xCB#8, 0xF4#8] | .set_6_l => [0xCB#8, 0xF5#8] | .set_6_mhl => [0xCB#8, 0xF6#8] | .set_6_a => [0xCB#8, 0xF7#8]
  | .set_7_b => [0xCB#8, 0xF8#8] | .set_7_c => [0xCB#8, 0xF9#8] | .set_7_d => [0xCB#8, 0xFA#8] | .set_7_e => [0xCB#8, 0xFB#8]
  | .set_7_h => [0xCB#8, 0xFC#8] | .set_7_l => [0xCB#8, 0xFD#8] | .set_7_mhl => [0xCB#8, 0xFE#8] | .set_7_a => [0xCB#8, 0xFF#8]

/-! ### From a row of the opcode table back to its family and operands (the fields of R62) -/

/-- The family and operands of an instruction. -/
def Instr.form : Instr → Form
  | .nop => .nop | .ld_bc_n16 n16 => .ldPair .bc n16 | .ld_mbc_a => .ldIndA .bc | .inc_bc => .incPair .bc
  | .inc_b => .inc .b | .dec_b => .dec .b | .ld_b_n8 n8 => .ldImm .b n8 | .rlca => .accRot .rlca
  | .ld_mn16_sp n16 => .ldAbsSp n16 | .add_hl_bc => .addHl .bc | .ld_a_mbc => .ldAInd .bc | .dec_bc => .decPair .bc
  | .inc_c => .inc .c | .dec_c => .dec .c | .ld_c_n8 n8 => .ldImm .c n8 | .rrca => .accRot .rrca
  | .stop => .stops .stop | .ld_de_n16 n16 => .ldPair .de n16 | .ld_mde_a => .ldIndA .de | .inc_de => .incPair .de
  | .inc_d => .inc .d | .dec_d => .dec .d | .ld_d_n8 n8 => .ldImm .d n8 | .rla => .accRot .rla
  | .jr_e8 e8 => .jr e8 | .add_hl_de => .addHl .de | .ld_a_mde => .ldAInd .de | .dec_de => .decPair .de
  | .inc_e => .inc .e | .dec_e => .dec .e | .ld_e_n8 n8 => .ldImm .e n8 | .rra => .accRot .rra
  | .jr_nz_e8 e8 => .jrCond .nz e8 | .ld_hl_n16 n16 => .ldPair .hl n16 | .ld_mhlInc_a => .ldIndA .hlInc | .inc_hl => .incPair .hl
  | .inc_h => .inc .h | .dec_h => .dec .h | .ld_h_n8 n8 => .ldImm .h n8 | .daa => .stops .daa
  | .jr_z_e8 e8 => .jrCond .z e8 | .add_hl_hl => .addHl .hl | .ld_a_mhlInc => .ldAInd .hlInc | .dec_hl => .decPair .hl
  | .inc_l => .inc .l | .dec_l => .dec .l | .ld_l_n8 n8 => .ldImm .l n8 | .cpl => .cpl
  | .jr_nc_e8 e8 => .jrCond .nc e8 | .ld_sp_n16 n16 => .ldPair .sp n16 | .ld_mhlDec_a => .ldIndA .hlDec | .inc_sp => .incPair .sp
  | .inc_mhl => .inc .mhl | .dec_mhl => .dec .mhl | .ld_mhl_n8 n8 => .ldImm .mhl n8 | .scf => .scf
  | .jr_c_e8 e8 => .jrCond .c e8 | .add_hl_sp => .addHl .sp | .ld_a_mhlDec => .ldAInd .hlDec | .dec_sp => .decPair .sp
  | .inc_a => .inc .a | .dec_a => .dec .a | .ld_a_n8 n8 => .ldImm .a n8 | .ccf => .ccf
  | .ld_b_b => .ld .b .b | .ld_b_c => .ld .b .c | .ld_b_d => .ld .b .d | .ld_b_e => .ld .b .e
  | .ld_b_h => .ld .b .h | .ld_b_l => .ld .b .l | .ld_b_mhl => .ld .b .mhl | .ld_b_a => .ld .b .a
  | .ld_c_b => .ld .c .b | .ld_c_c => .ld .c .c | .ld_c_d => .ld .c .d | .ld_c_e => .ld .c .e
  | .ld_c_h => .ld .c .h | .ld_c_l => .ld .c .l | .ld_c_mhl => .ld .c .mhl | .ld_c_a => .ld .c .a
  | .ld_d_b => .ld .d .b | .ld_d_c => .ld .d .c | .ld_d_d => .ld .d .d | .ld_d_e => .ld .d .e
  | .ld_d_h => .ld .d .h | .ld_d_l => .ld .d .l | .ld_d_mhl => .ld .d .mhl | .ld_d_a => .ld .d .a
  | .ld_e_b => .ld .e .b | .ld_e_c => .ld .e .c | .ld_e_d => .ld .e .d | .ld_e_e => .ld .e .e
  | .ld_e_h => .ld .e .h | .ld_e_l => .ld .e .l | .ld_e_mhl => .ld .e .mhl | .ld_e_a => .ld .e .a
  | .ld_h_b => .ld .h .b | .ld_h_c => .ld .h .c | .ld_h_d => .ld .h .d | .ld_h_e => .ld .h .e
  | .ld_h_h => .ld .h .h | .ld_h_l => .ld .h .l | .ld_h_mhl => .ld .h .mhl | .ld_h_a => .ld .h .a
  | .ld_l_b => .ld .l .b | .ld_l_c => .ld .l .c | .ld_l_d => .ld .l .d | .ld_l_e => .ld .l .e
  | .ld_l_h => .ld .l .h | .ld_l_l => .ld .l .l | .ld_l_mhl => .ld .l .mhl | .ld_l_a => .ld .l .a
  | .ld_mhl_b => .ld .mhl .b | .ld_mhl_c => .ld .mhl .c | .ld_mhl_d => .ld .mhl .d | .ld_mhl_e => .ld .mhl .e
  | .ld_mhl_h => .ld .mhl .h | .ld_mhl_l => .ld .mhl .l | .halt => .stops .halt | .ld_mhl_a => .ld .mhl .a
  | .ld_a_b => .ld .a .b | .ld_a_c => .ld .a .c | .ld_a_d => .ld .a .d | .ld_a_e => .ld .a .e
  | .ld_a_h => .ld .a .h | .ld_a_l => .ld .a .l | .ld_a_mhl => .ld .a .mhl | .ld_a_a => .ld .a .a
  | .add_a_b => .alu .add .b | .add_a_c => .alu .add .c | .add_a_d => .alu .add .d | .add_a_e => .alu .add .e
  | .add_a_h => .alu .add .h | .add_a_l => .alu .add .l | .add_a_mhl => .alu .add .mhl | .add_a_a => .alu .add .a
  | .adc_a_b => .alu .adc .b | .adc_a_c => .alu .adc .c | .adc_a_d => .alu .adc .d | .adc_a_e => .alu .adc .e
  | .adc_a_h => .alu .adc .h | .adc_a_l => .alu .adc .l | .adc_a_mhl => .alu .adc .mhl | .adc_a_a => .alu .adc .a
  | .sub_b => .alu .sub .b | .sub_c => .alu .sub .c | .sub_d => .alu .sub .d | .sub_e => .alu .sub .e
  | .sub_h => .alu .sub .h | .sub_l => .alu .sub .l | .sub_mhl => .alu .sub .mhl | .sub_a => .alu .sub .a
  | .sbc_a_b => .alu .sbc .b | .sbc_a_c => .alu .sbc .c | .sbc_a_d => .alu .sbc .d | .sbc_a_e => .alu .sbc .e
  | .sbc_a_h => .alu .sbc .h | .sbc_a_l => .alu .sbc .l | .sbc_a_mhl => .alu .sbc .mhl | .sbc_a_a => .alu .sbc .a
  | .and_b => .alu .and .b | .and_c => .alu .and .c | .and_d => .alu .and .d | .and_e => .alu .and .e
  | .and_h => .alu .and .h | .and_l => .alu .and .l | .and_mhl => .alu .and .mhl | .and_a => .alu .and .a
  | .xor_b => .alu .xor .b | .xor_c => .alu .xor .c | .xor_d => .alu .xor .d | .xor_e => .alu .xor .e
  | .xor_h => .alu .xor .h | .xor_l => .alu .xor .l | .xor_mhl => .alu .xor .mhl | .xor_a => .alu .xor .a
  | .or_b => .alu .or .b | .or_c => .alu .or .c | .or_d => .alu .or .d | .or_e => .alu .or .e
  | .or_h => .alu .or .h | .or_l => .alu .or .l | .or_mhl => .alu .or .mhl | .or_a => .alu .or .a
  | .cp_b => .alu .cp .b | .cp_c => .alu .cp .c | .cp_d => .alu .cp .d | .cp_e => .alu .cp .e
  | .cp_h => .alu .cp .h | .cp_l => .alu .cp .l | .cp_mhl => .alu .cp .mhl | .cp_a => .alu .cp .a
  | .ret_nz => .retCond .nz | .pop_bc => .pop .bc | .jp_nz_n16 n16 => .jpCond .nz n16 | .jp_n16 n16 => .jp n16
  | .call_nz_n16 n16 => .callCond .nz n16 | .push_bc => .push .bc | .add_a_n8 n8 => .aluImm .add n8 | .rst_00 => .rst .i0
  | .ret_z => .retCond .z | .ret => .ret | .jp_z_n16 n16 => .jpCond .z n16 | .escape_cb op2 => .escape op2
  | .call_z_n16 n16 => .callCond .z n16 | .call_n16 n16 => .call n16 | .adc_a_n8 n8 => .aluImm .adc n8 | .rst_08 => .rst .i1
  | .ret_nc => .retCond .nc | .pop_de => .pop .de | .jp_nc_n16 n16 => .jpCond .nc n16 | .illegal_d3 => .stops .d3
  | .call_nc_n16 n16 => .callCond .nc n16 | .push_de => .push .de | .sub_n8 n8 => .aluImm .sub n8 | .rst_10 => .rst .i2
  | .ret_c => .retCond .c | .reti => .stops .reti | .jp_c_n16 n16 => .jpCond .c n16 | .illegal_db => .stops .db
  | .call_c_n16 n16 => .callCond .c n16 | .illegal_dd => .stops .dd | .sbc_a_n8 n8 => .aluImm .sbc n8 | .rst_18 => .rst .i3
  | .ldh_mn8_a n8 => .ldhImmA n8 | .pop_hl => .pop .hl | .ldh_mc_a => .ldhCA | .illegal_e3 => .stops .e3
  | .illegal_e4 => .stops .e4 | .push_hl => .push .hl | .and_n8 n8 => .aluImm .and n8 | .rst_20 => .rst .i4
  | .add_sp_e8 e8 => .addSp e8 | .jp_hl => .jpHl | .ld_mn16_a n16 => .ldAbsA n16 | .illegal_eb => .stops .eb
  | .illegal_ec => .stops .ec | .illegal_ed => .stops .ed | .xor_n8 n8 => .aluImm .xor n8 | .rst_28 => .rst .i5
  | .ldh_a_mn8 n8 => .ldhAImm n8 | .pop_af => .pop .af | .ldh_a_mc => .ldhAC | .di => .stops .di
  | .illegal_f4 => .stops .f4 | .push_af => .push .af | .or_n8 n8 => .aluImm .or n8 | .rst_30 => .rst .i6
  | .ld_hl_spe8 e8 => .ldHlSpE e8 | .ld_sp_hl => .ldSpHl | .ld_a_mn16 n16 => .ldAAbs n16 | .ei => .stops .ei
  | .illegal_fc => .stops .fc | .illegal_fd => .stops .fd | .cp_n8 n8 => .aluImm .cp n8 | .rst_38 => .rst .i7
  | .rlc_b => .rot .rlc .b | .rlc_c => .rot .rlc .c | .rlc_d => .rot .rlc .d | .rlc_e => .rot .rlc .e
  | .rlc_h => .rot .rlc .h | .rlc_l => .rot .rlc .l | .rlc_mhl => .rot .rlc .mhl | .rlc_a => .rot .rlc .a
  | .rrc_b => .rot .rrc .b | .rrc_c => .rot .rrc .c | .rrc_d => .rot .rrc .d | .rrc_e => .rot .rrc .e
  | .rrc_h => .rot .rrc .h | .rrc_l => .rot .rrc .l | .rrc_mhl => .rot .rrc .mhl | .rrc_a => .rot .rrc .a
  | .rl_b => .rot .rl .b | .rl_c => .rot .rl .c | .rl_d => .rot .rl .d | .rl_e => .rot .rl .e
  | .rl_h => .rot .rl .h | .rl_l => .rot .rl .l | .rl_mhl => .rot .rl .mhl | .rl_a => .rot .rl .a
  | .rr_b => .rot .rr .b | .rr_c => .rot .rr .c | .rr_d => .rot .rr .d | .rr_e => .rot .rr .e
  | .rr_h => .rot .rr .h | .rr_l => .rot .rr .l | .rr_mhl => .rot .rr .mhl | .rr_a => .rot .rr .a
  | .sla_b => .rot .sla .b | .sla_c => .rot .sla .c | .sla_d => .rot .sla .d | .sla_e => .rot .sla .e
  | .sla_h => .rot .sla .h | .sla_l => .rot .sla .l | .sla_mhl => .rot .sla .mhl | .sla_a => .rot .sla .a
  | .sra_b => .rot .sra .b | .sra_c => .rot .sra .c | .sra_d => .rot .sra .d | .sra_e => .rot .sra .e
  | .sra_h => .rot .sra .h | .sra_l => .rot .sra .l | .sra_mhl => .rot .sra .mhl | .sra_a => .rot .sra .a
  | .swap_b => .rot .swap .b | .swap_c => .rot .swap .c | .swap_d => .rot .swap .d | .swap_e => .rot .swap .e
  | .swap_h => .rot .swap .h | .swap_l => .rot .swap .l | .swap_mhl => .rot .swap .mhl | .swap_a => .rot .swap .a
  | .srl_b => .rot .srl .b | .srl_c => .rot .srl .c | .srl_d => .rot .srl .d | .srl_e => .rot .srl .e
  | .srl_h => .rot .srl .h | .srl_l => .rot .srl .l | .srl_mhl => .rot .srl .mhl | .srl_a => .rot .srl .a
  | .bit_0_b => .bit .i0 .b | .bit_0_c => .bit .i0 .c | .bit_0_d => .bit .i0 .d | .bit_0_e => .bit .i0 .e
  | .bit_0_h => .bit .i0 .h | .bit_0_l => .bit .i0 .l | .bit_0_mhl => .bit .i0 .mhl | .bit_0_a => .bit .i0 .a
  | .bit_1_b => .bit .i1 .b | .bit_1_c => .bit .i1 .c | .bit_1_d => .bit .i1 .d | .bit_1_e => .bit .i1 .e
  | .bit_1_h => .bit .i1 .h | .bit_1_l => .bit .i1 .l | .bit_1_mhl => .bit .i1 .mhl | .bit_1_a => .bit .i1 .a
  | .bit_2_b => .bit .i2 .b | .bit_2_c => .bit .i2 .c | .bit_2_d => .bit .i2 .d | .bit_2_e => .bit .i2 .e
  | .bit_2_h => .bit .i2 .h | .bit_2_l => .bit .i2 .l | .bit_2_mhl => .bit .i2 .mhl | .bit_2_a => .bit .i2 .a
  | .bit_3_b => .bit .i3 .b | .bit_3_c => .bit .i3 .c | .bit_3_d => .bit .i3 .d | .bit_3_e => .bit .i3 .e
  | .bit_3_h => .bit .i3 .h | .bit_3_l => .bit .i3 .l | .bit_3_mhl => .bit .i3 .mhl | .bit_3_a => .bit .i3 .a
  | .bit_4_b => .bit .i4 .b | .bit_4_c => .bit .i4 .c | .bit_4_d => .bit .i4 .d | .bit_4_e => .bit .i4 .e
  | .bit_4_h => .bit .i4 .h | .bit_4_l => .bit .i4 .l | .bit_4_mhl => .bit .i4 .mhl | .bit_4_a => .bit .i4 .a
  | .bit_5_b => .bit .i5 .b | .bit_5_c => .bit .i5 .c | .bit_5_d => .bit .i5 .d | .bit_5_e => .bit .i5 .e
  | .bit_5_h => .bit .i5 .h | .bit_5_l => .bit .i5 .l | .bit_5_mhl => .bit .i5 .mhl | .bit_5_a => .bit .i5 .a
  | .bit_6_b => .bit .i6 .b | .bit_6_c => .bit .i6 .c | .bit_6_d => .bit .i6 .d | .bit_6_e => .bit .i6 .e
  | .bit_6_h => .bit .i6 .h | .bit_6_l => .bit .i6 .l | .bit_6_mhl => .bit .i6 .mhl | .bit_6_a => .bit .i6 .a
  | .bit_7_b => .bit .i7 .b | .bit_7_c => .bit .i7 .c | .bit_7_d => .bit .i7 .d | .bit_7_e => .bit .i7 .e
  | .bit_7_h => .bit .i7 .h | .bit_7_l => .bit .i7 .l | .bit_7_mhl => .bit .i7 .mhl | .bit_7_a => .bit .i7 .a
  | .res_0_b => .res .i0 .b | .res_0_c => .res .i0 .c | .res_0_d => .res .i0 .d | .res_0_e => .res .i0 .e
  | .res_0_h => .res .i0 .h | .res_0_l => .res .i0 .l | .res_0_mhl => .res .i0 .mhl | .res_0_a => .res .i0 .a
  | .res_1_b => .res .i1 .b | .res_1_c => .res .i1 .c | .res_1_d => .res .i1 .d | .res_1_e => .res .i1 .e
  | .res_1_h => .res .i1 .h | .res_1_l => .res .i1 .l | .res_1_mhl => .res .i1 .mhl | .res_1_a => .res .i1 .a
  | .res_2_b => .res .i2 .b | .res_2_c => .res .i2 .c | .res_2_d => .res .i2 .d | .res_2_e => .res .i2 .e
  | .res_2_h => .res .i2 .h | .res_2_l => .res .i2 .l | .res_2_mhl => .res .i2 .mhl | .res_2_a => .res .i2 .a
  | .res_3_b => .res .i3 .b | .res_3_c => .res .i3 .c | .res_3_d => .res .i3 .d | .res_3_e => .res .i3 .e
  | .res_3_h => .res .i3 .h | .res_3_l => .res .i3 .l | .res_3_mhl => .res .i3 .mhl | .res_3_a => .res .i3 .a
  | .res_4_b => .res .i4 .b | .res_4_c => .res .i4 .c | .res_4_d => .res .i4 .d | .res_4_e => .res .i4 .e
  | .res_4_h => .res .i4 .h | .res_4_l => .res .i4 .l | .res_4_mhl => .res .i4 .mhl | .res_4_a => .res .i4 .a
  | .res_5_b => .res .i5 .b | .res_5_c => .res .i5 .c | .res_5_d => .res .i5 .d | .res_5_e => .res .i5 .e
  | .res_5_h => .res .i5 .h | .res_5_l => .res .i5 .l | .res_5_mhl => .res .i5 .mhl | .res_5_a => .res .i5 .a
  | .res_6_b => .res .i6 .b | .res_6_c => .res .i6 .c | .res_6_d => .res .i6 .d | .res_6_e => .res .i6 .e
  | .res_6_h => .res .i6 .h | .res_6_l => .res .i6 .l | .res_6_mhl => .res .i6 .mhl | .res_6_a => .res .i6 .a
  | .res_7_b => .res .i7 .b | .res_7_c => .res .i7 .c | .res_7_d => .res .i7 .d | .res_7_e => .res .i7 .e
  | .res_7_h => .res .i7 .h | .res_7_l => .res .i7 .l | .res_7_mhl => .res .i7 .mhl | .res_7_a => .res .i7 .a
  | .set_0_b => .set .i0 .b | .set_0_c => .set .i0 .c | .set_0_d => .set .i0 .d | .set_0_e => .set .i0 .e
  | .set_0_h => .set .i0 .h | .set_0_l => .set .i0 .l | .set_0_mhl => .set .i0 .mhl | .set_0_a => .set .i0 .a
  | .set_1_b => .set .i1 .b | .set_1_c => .set .i1 .c | .set_1_d => .set .i1 .d | .set_1_e => .set .i1 .e
  | .set_1_h => .set .i1 .h | .set_1_l => .set .i1 .l | .set_1_mhl => .set .i1 .mhl | .set_1_a => .set .i1 .a
  | .set_2_b => .set .i2 .b | .set_2_c => .set .i2 .c | .set_2_d => .set .i2 .d | .set_2_e => .set .i2 .e
  | .set_2_h => .set .i2 .h | .set_2_l => .set .i2 .l | .set_2_mhl => .set .i2 .mhl | .set_2_a => .set .i2 .a
  | .set_3_b => .set .i3 .b | .set_3_c => .set .i3 .c | .set_3_d => .set .i3 .d | .set_3_e => .set .i3 .e
  | .set_3_h => .set .i3 .h | .set_3_l => .set .i3 .l | .set_3_mhl => .set .i3 .mhl | .set_3_a => .set .i3 .a
  | .set_4_b => .set .i4 .b | .set_4_c => .set .i4 .c | .set_4_d => .set .i4 .d | .set_4_e => .set .i4 .e
  | .set_4_h => .set .i4 .h | .set_4_l => .set .i4 .l | .set_4_mhl => .set .i4 .mhl | .set_4_a => .set .i4 .a
  | .set_5_b => .set .i5 .b | .set_5_c => .set .i5 .c | .set_5_d => .set .i5 .d | .set_5_e => .set .i5 .e
  | .set_5_h => .set .i5 .h | .set_5_l => .set .i5 .l | .set_5_mhl => .set .i5 .mhl | .set_5_a => .set .i5 .a
  | .set_6_b => .set .i6 .b | .set_6_c => .set .i6 .c | .set_6_d => .set .i6 .d | .set_6_e => .set .i6 .e
  | .set_6_h => .set .i6 .h | .set_6_l => .set .i6 .l | .set_6_mhl => .set .i6 .mhl | .set_6_a => .set .i6 .a
  | .set_7_b => .set .i7 .b | .set_7_c => .set .i7 .c | .set_7_d => .set .i7 .d | .set_7_e => .set .i7 .e
  | .set_7_h => .set .i7 .h | .set_7_l => .set .i7 .l | .set_7_mhl => .set .i7 .mhl | .set_7_a => .set .i7 .a

end Sys2Proof
end

