-- ==== Sys2Proof/Config.lean ====
section
/-! DEFINITION. The parameters of 00_scope.md R4 that are not state (R7 point 2), at the values the spec gives them, and
the values the model names where the spec leaves the reset open. -/

namespace Sys2Proof

/-- `SPADD_NEG_RULE` (41_loads16_stack.md R139): how H and C of SP plus a negative byte are computed; `borrow` is the
document's rule, `carry` the silicon's. -/
inductive SpAddNegRule
  | borrow
  | carry
  deriving DecidableEq, Repr

/-- `AND_SETS_H` (42_alu8.md R156): false is the document's value (log entry 4). -/
def Config.andSetsH : Bool := false

/-- `SPADD_NEG_RULE` (41_loads16_stack.md R139): `borrow` is the document's value (log entry 4). -/
def Config.spAddNegRule : SpAddNegRule := .borrow

/-- `ROTA_Z_FROM_RESULT` (44_rotates_cb.md R190 to R193): false is the spec's default (log entry 4). -/
def Config.rotaZFromResult : Bool := false

/-- What a byte of memory that nothing has written reads as: 0x00, "zero-initialized" (20_memory.md R55). -/
def Config.unlistedByte : Byte := 0x00#8

/-- DESIGN CHOICE (log entry 1): the value of each of A, B, C, D, E, H, L in `State.reset`; the spec gives none
(`RESET_REGS`, 10_state.md R23). -/
def Config.resetRegister : Byte := 0x00#8

/-- DESIGN CHOICE (log entry 1): the value of each of Z, N, H, C in `State.reset`; the spec gives none (10_state.md R23). -/
def Config.resetFlag : Bool := false

/-- DESIGN CHOICE (log entry 2): PC in `State.reset`; the spec leaves `RESET_PC` to the host (10_state.md R23). -/
def Config.resetPc : Word := 0x0000#16

/-- DESIGN CHOICE (log entry 2): SP in `State.reset`; the spec leaves `RESET_SP` to the host (10_state.md R23). -/
def Config.resetSp : Word := 0x0000#16

end Sys2Proof
end

