-- ==== Sys2Proof/Machine/State.lean ====
section
/-! DEFINITION. The state of the core, its one fault, and reset (10_state.md; 60_exceptions.md; 70_reset_and_hazards.md). -/

namespace Sys2Proof.Machine

/-- The flag register: four bits of storage, Z, N, H, C (10_state.md R13). Its byte view is `State.f`. -/
structure Flags where
  /-- zero, F bit 7 -/
  z : Bool
  /-- subtract, F bit 6 -/
  n : Bool
  /-- half-carry, F bit 5 -/
  h : Bool
  /-- carry, F bit 4 -/
  c : Bool
  deriving DecidableEq, Repr

/-- The memory behind the interface (20_memory.md R40): the bytes that differ from `Config.unlistedByte`, by rising address
(`Memory.wf` in Ops.lean says so). -/
abbrev Memory := List Host.Cell

/-- The complete architectural state (10_state.md R10, "and nothing else") and the memory of 20_memory.md R40. -/
structure State where
  /-- A, the accumulator (R11) -/
  a : Byte
  /-- B (R11) -/
  b : Byte
  /-- C, the register (R11); the carry flag is `flags.c` -/
  c : Byte
  /-- D (R11) -/
  d : Byte
  /-- E (R11) -/
  e : Byte
  /-- H, the register (R11); the half-carry flag is `flags.h` -/
  h : Byte
  /-- L (R11) -/
  l : Byte
  /-- F, four bits of storage (R13) -/
  flags : Flags
  /-- the stack pointer (R18) -/
  sp : Word
  /-- the program counter (R16) -/
  pc : Word
  /-- the 65536 bytes of memory (20_memory.md R40) -/
  mem : Memory
  deriving DecidableEq, Repr

/-- Why a step stops: the one fault of the core (60_exceptions.md R260). -/
inductive Fault
  /-- `UnimplementedOpcode(op, prefixed, at)` (R260, R261): raised by the seventeen opcodes of 30_encoding.md R70 and R71, and by
  an instruction the decoder cannot read (R73, which cannot happen). `addr` is the address of the opcode byte, PC when the
  step began. The spec itself makes it fatal with no next state (R263, R264): safe. -/
  | unimplementedOpcode (op : Byte) (prefixed : Bool) (addr : Word)
  deriving DecidableEq, Repr

/-- Why the model gives an instruction no meaning. -/
inductive Refusal
  /-- Raised by an arm of `exec` that has no meaning yet; no arm is left so. Safe. -/
  | notModelled (mnemonic : String)
  deriving DecidableEq, Repr

/-- What the host supplies at reset (10_state.md R23; 70_reset_and_hazards.md R290): `RESET_REGS` (A to L and the flags, "any value"),
`RESET_SP` and `RESET_PC`. -/
structure ResetValues where
  a : Byte
  b : Byte
  c : Byte
  d : Byte
  e : Byte
  h : Byte
  l : Byte
  flags : Flags
  sp : Word
  pc : Word
  deriving DecidableEq, Repr

/-- Reset with the host's values: memory zero-initialized, that is nothing listed (R23, R290); no fault is raised. The
host's image is loaded after it by `State.hostLoad`. -/
def State.resetWith (r : ResetValues) : State :=
  { a := r.a, b := r.b, c := r.c, d := r.d, e := r.e, h := r.h, l := r.l, flags := r.flags, sp := r.sp, pc := r.pc, mem := [] }

/-- DESIGN CHOICE (log entries 1 and 2): the values the model names where the spec leaves the reset to the host. -/
def ResetValues.chosen : ResetValues :=
  { a := Config.resetRegister, b := Config.resetRegister, c := Config.resetRegister, d := Config.resetRegister,
    e := Config.resetRegister, h := Config.resetRegister, l := Config.resetRegister,
    flags := { z := Config.resetFlag, n := Config.resetFlag, h := Config.resetFlag, c := Config.resetFlag },
    sp := Config.resetSp, pc := Config.resetPc }

/-- The machine right after reset, at the values the model names. -/
def State.reset : State := State.resetWith ResetValues.chosen

end Sys2Proof.Machine
end

