-- ==== Sys2Proof/Machine/Ops.lean ====
section
/-! DEFINITION. The named operations over memory and registers: the memory interface (20_memory.md R41), the register views
(10_state.md R12 to R14), fetching (30_encoding.md R66, R67), the stack (41_loads16_stack.md R138), raising the fault (60_exceptions.md
R260) and what the host does outside a step (70_reset_and_hazards.md R298). -/

namespace Sys2Proof.Machine

/-- The outcome of a step or of an instruction. -/
abbrev Result := Host.Outcome State Fault Refusal

/-! ### Memory: a canonical list of cells -/

/-- The byte at an address: the listed one, else what an unlisted address reads as (20_memory.md R43, R55). -/
def Memory.read : Memory → Nat → Byte
  | [], _ => Config.unlistedByte
  | (k, v) :: rest, addr => if k = addr then v else Memory.read rest addr

/-- Put a cell before the first cell of a higher address. -/
def Memory.insertCell : Memory → Host.Cell → Memory
  | [], x => [x]
  | y :: rest, x => if x.1 < y.1 then x :: y :: rest else y :: Memory.insertCell rest x

/-- Take every cell of an address out. -/
def Memory.erase : Memory → Nat → Memory
  | [], _ => []
  | x :: rest, addr => if x.1 = addr then Memory.erase rest addr else x :: Memory.erase rest addr

/-- Write a byte, keeping the canonical form: writing what an unlisted address reads as removes the cell. -/
def Memory.write (m : Memory) (addr : Nat) (v : Byte) : Memory :=
  if v = Config.unlistedByte then m.erase addr else (m.erase addr).insertCell (addr, v)

/-- The canonical form from address `lo` on: addresses rise strictly, stay below 65536 (20_memory.md R40), and no cell holds what
an unlisted address reads as. -/
def Memory.wfFrom : Nat → Memory → Bool
  | _, [] => true
  | lo, (k, v) :: rest =>
    decide (lo ≤ k) && decide (k < 65536) && decide (v ≠ Config.unlistedByte) && Memory.wfFrom (k + 1) rest

/-- The canonical form of memory, in which equal memories are equal data. -/
def Memory.wf (m : Memory) : Bool := Memory.wfFrom 0 m

/-! ### The memory interface: one byte per access (20_memory.md R41, R42) -/

/-- `MemRead(addr, 1)`: one `read_byte` (R41). -/
def State.memRead (s : State) (addr : Word) : Byte := Memory.read s.mem addr.toNat

/-- `MemWrite(addr, 1, v)`: one `write_byte` (R41). -/
def State.memWrite (s : State) (addr : Word) (v : Byte) : State := { s with mem := Memory.write s.mem addr.toNat v }

/-! ### Registers: one setter each -/

/-- `A <- v` -/
def State.setA (s : State) (v : Byte) : State := { s with a := v }
/-- `B <- v` -/
def State.setB (s : State) (v : Byte) : State := { s with b := v }
/-- `C <- v` -/
def State.setC (s : State) (v : Byte) : State := { s with c := v }
/-- `D <- v` -/
def State.setD (s : State) (v : Byte) : State := { s with d := v }
/-- `E <- v` -/
def State.setE (s : State) (v : Byte) : State := { s with e := v }
/-- `H <- v` -/
def State.setH (s : State) (v : Byte) : State := { s with h := v }
/-- `L <- v` -/
def State.setL (s : State) (v : Byte) : State := { s with l := v }
/-- All four flags. -/
def State.setFlags (s : State) (v : Flags) : State := { s with flags := v }
/-- `SP <- v` -/
def State.setSp (s : State) (v : Word) : State := { s with sp := v }
/-- `PC <- v` -/
def State.setPc (s : State) (v : Word) : State := { s with pc := v }

/-! ### The flag register as a byte (10_state.md R13) -/

/-- F as a byte: `F.Z:F.N:F.H:F.C:0b0000` (R13). -/
def Flags.toByte (f : Flags) : Byte :=
  BitVec.ofBool f.z ++ BitVec.ofBool f.n ++ BitVec.ofBool f.h ++ BitVec.ofBool f.c ++ 0#4

/-- Writing a byte to F: bits 7, 6, 5, 4 are kept, bits 3..0 discarded (R13). -/
def Flags.ofByte (v : Byte) : Flags :=
  { z := v.getLsbD 7, n := v.getLsbD 6, h := v.getLsbD 5, c := v.getLsbD 4 }

/-- The flag register F as a byte (R13). -/
def State.f (s : State) : Byte := s.flags.toByte

/-! ### The pair views: the first-named register is the high byte (R12, R14) -/

/-- Reading BC gives `B:C` (R12). -/
def State.bc (s : State) : Word := wordOf s.b s.c
/-- Reading DE gives `D:E` (R12). -/
def State.de (s : State) : Word := wordOf s.d s.e
/-- Reading HL gives `H:L` (R12). -/
def State.hl (s : State) : Word := wordOf s.h s.l
/-- Reading AF gives `A:F` with bits 3..0 zero (R14). -/
def State.af (s : State) : Word := wordOf s.a s.f

/-- `BC <- v` (R12). -/
def State.setBc (s : State) (v : Word) : State := (s.setB (hiByte v)).setC (loByte v)
/-- `DE <- v` (R12). -/
def State.setDe (s : State) (v : Word) : State := (s.setD (hiByte v)).setE (loByte v)
/-- `HL <- v` (R12). -/
def State.setHl (s : State) (v : Word) : State := (s.setH (hiByte v)).setL (loByte v)
/-- `AF <- v`: the low nibble of the low byte is discarded (R14). -/
def State.setAf (s : State) (v : Word) : State := (s.setA (hiByte v)).setFlags (Flags.ofByte (loByte v))

/-! ### Fetching (30_encoding.md R66, R67) -/

/-- `Fetch8()`: the byte at PC, and PC one further, modulo 65536 (R66; 10_state.md R16, R17). -/
def State.fetch8 (s : State) : Byte × State := (s.memRead s.pc, s.setPc (s.pc + 1#16))

/-- `n` fetches in a row, the bytes in the order fetched. -/
def State.fetchBytes : Nat → State → List Byte × State
  | 0, s => ([], s)
  | n + 1, s =>
    let (v, s1) := s.fetch8
    let (vs, s2) := State.fetchBytes n s1
    (v :: vs, s2)

/-- The fetch of one instruction: its first byte, which fixes its length (30_encoding.md R60), then its other bytes and none beyond
(20_memory.md R57). -/
def State.fetchInstrBytes (s : State) : List Byte × State :=
  let (op, s1) := s.fetch8
  let (rest, s2) := State.fetchBytes (instrLength op - 1) s1
  (op :: rest, s2)

/-- Fetch and decode one instruction (30_encoding.md R67): what the decoder answers, and the state with PC past the bytes. -/
def State.fetchDecode (s : State) : Decoded × State :=
  let (bytes, s1) := s.fetchInstrBytes
  (decode bytes, s1)

/-! ### The stack (41_loads16_stack.md R138) -/

/-- `Push16(v)`: high byte at SP-1, then low byte at SP-2 (R138). -/
def State.push16 (s : State) (v : Word) : State :=
  let s1 := s.setSp (s.sp - 1#16)
  let s2 := s1.memWrite s1.sp (hiByte v)
  let s3 := s2.setSp (s2.sp - 1#16)
  s3.memWrite s3.sp (loByte v)

/-- `Pop16()`: low byte from SP, then high byte from SP+1 (R138). -/
def State.pop16 (s : State) : Word × State :=
  let lo := s.memRead s.sp
  let s1 := s.setSp (s.sp + 1#16)
  let hi := s1.memRead s1.sp
  let s2 := s1.setSp (s1.sp + 1#16)
  (wordOf hi lo, s2)

/-! ### The one exception (60_exceptions.md) -/

/-- `raise UnimplementedOpcode(op, prefixed, at)`: the step ends with the fault and has no next state; nothing is saved, no vector
is taken, and there is no return (R260, R261, R263, R267, R268). -/
def raiseUnimplementedOpcode (op : Byte) (prefixed : Bool) (addr : Word) : Result :=
  .fault (.unimplementedOpcode op prefixed addr)

/-- The address a one-byte instruction was fetched from: PC before its fetch (R261). -/
def State.opcodeAddress (s : State) : Word := s.pc - 1#16

/-- "Invalid-decode-state": treated as an unimplemented opcode (30_encoding.md R73); it cannot occur, since the tables are total. -/
def invalidDecode (s : State) : Result := raiseUnimplementedOpcode (s.memRead s.pc) false s.pc

/-! ### What the host does outside a step (70_reset_and_hazards.md R290, R298) -/

/-- Load an image: bytes at rising addresses from `base`, modulo 65536. -/
def State.hostLoad : State → Word → List Byte → State
  | s, _, [] => s
  | s, base, v :: vs => State.hostLoad (s.memWrite base v) (base + 1#16) vs

/-- Reset and load: the state before the first step (R290). -/
def State.launch (r : ResetValues) (base : Word) (image : List Byte) : State := (State.resetWith r).hostLoad base image

end Sys2Proof.Machine
end

