-- ==== Sys2Proof/Machine/Operands.lean ====
section
/-! DEFINITION. Every operand form (00_scope.md R6; 30_encoding.md R63 to R66). -/

namespace Sys2Proof.Machine

/-- Reading `R8[i]`; for (HL) one `MemRead(HL, 1)` (00_scope.md R6; 30_encoding.md R63). -/
def State.readR8 (s : State) : R8 → Byte
  | .b => s.b
  | .c => s.c
  | .d => s.d
  | .e => s.e
  | .h => s.h
  | .l => s.l
  | .mhl => s.memRead s.hl
  | .a => s.a

/-- Writing `R8[i]`; for (HL) one `MemWrite(HL, 1, v)` (00_scope.md R6; 30_encoding.md R63). -/
def State.writeR8 (s : State) (r : R8) (v : Byte) : State :=
  match r with
  | .b => s.setB v
  | .c => s.setC v
  | .d => s.setD v
  | .e => s.setE v
  | .h => s.setH v
  | .l => s.setL v
  | .mhl => s.memWrite s.hl v
  | .a => s.setA v

/-- Reading `R16[p]` (30_encoding.md R64). -/
def State.readR16 (s : State) : R16 → Word
  | .bc => s.bc
  | .de => s.de
  | .hl => s.hl
  | .sp => s.sp

/-- Writing `R16[p]` (30_encoding.md R64). -/
def State.writeR16 (s : State) (p : R16) (v : Word) : State :=
  match p with
  | .bc => s.setBc v
  | .de => s.setDe v
  | .hl => s.setHl v
  | .sp => s.setSp v

/-- Reading `R16STK[p]` (30_encoding.md R64). -/
def State.readR16Stk (s : State) : R16Stk → Word
  | .bc => s.bc
  | .de => s.de
  | .hl => s.hl
  | .af => s.af

/-- Writing `R16STK[p]` (30_encoding.md R64); AF keeps four flag bits (10_state.md R14). -/
def State.writeR16Stk (s : State) (p : R16Stk) (v : Word) : State :=
  match p with
  | .bc => s.setBc v
  | .de => s.setDe v
  | .hl => s.setHl v
  | .af => s.setAf v

/-- The address of `R16MEM[p]` (30_encoding.md R64). -/
def State.addrR16Mem (s : State) : R16Mem → Word
  | .bc => s.bc
  | .de => s.de
  | .hlInc => s.hl
  | .hlDec => s.hl

/-- What follows the access of `R16MEM[p]`: HL+1 or HL-1, modulo 65536, from the address used (40_loads8.md R115 to R118). -/
def State.stepR16Mem (s : State) (m : R16Mem) (addr : Word) : State :=
  match m with
  | .bc => s
  | .de => s
  | .hlInc => s.setHl (addr + 1#16)
  | .hlDec => s.setHl (addr - 1#16)

/-- `0xFF00 + offset`, "never above 0xFFFF" (40_loads8.md R111 to R114). -/
def ioPage (offset : Byte) : Word := wordOf 0xFF#8 offset

/-- Whether a condition holds (30_encoding.md R65). -/
def Flags.holds (f : Flags) : Cond → Bool
  | .nz => !f.z
  | .z => f.z
  | .nc => !f.c
  | .c => f.c

/-- The restart vector `y * 8`, zero-extended (30_encoding.md R66; 45_control.md R230). -/
def restartVector (v : Idx) : Word := BitVec.ofNat 16 (v.field * 8)

end Sys2Proof.Machine
end

