-- ==== Sys2Proof/Machine/Flags.lean ====
section
/-! DEFINITION. Every result that comes with flags, as a function of its operands (42_alu8.md R150, R151; 41_loads16_stack.md R139; 43_alu16.md R180;
44_rotates_cb.md R194). `+` and `-` are over the integers and truncated explicitly, as in the spec (00_scope.md R5). -/

namespace Sys2Proof.Machine

/-- `Add8(a, b, cin)` (42_alu8.md R150). -/
def add8 (a b : Byte) (cin : Bool) : Byte × Flags :=
  let t := a.toNat + b.toNat + cin.toNat
  let result := BitVec.ofNat 8 t
  (result,
    { z := result == 0#8
      n := false
      h := decide (a.toNat % 16 + b.toNat % 16 + cin.toNat > 0x0F)
      c := decide (t > 0xFF) })

/-- `Sub8(a, b, cin)`, `cin` the borrow-in (42_alu8.md R151). -/
def sub8 (a b : Byte) (cin : Bool) : Byte × Flags :=
  let t : Int := (a.toNat : Int) - b.toNat - cin.toNat
  let result := BitVec.ofInt 8 t
  (result,
    { z := result == 0#8
      n := true
      h := decide (b.toNat % 16 + cin.toNat > a.toNat % 16)
      c := decide (t < 0) })

/-- The flags of AND, XOR and OR: Z of the result, N = C = 0, and H, which is 0 but for AND under `AND_SETS_H` (42_alu8.md R156 to
R158). -/
def logicFlags (result : Byte) (h : Bool) : Flags := { z := result == 0#8, n := false, h := h, c := false }

/-- AND with its flags; `setsH` is `AND_SETS_H` (42_alu8.md R156). -/
def and8 (setsH : Bool) (a b : Byte) : Byte × Flags := (a &&& b, logicFlags (a &&& b) setsH)

/-- XOR with its flags (42_alu8.md R157). -/
def xor8 (a b : Byte) : Byte × Flags := (a ^^^ b, logicFlags (a ^^^ b) false)

/-- OR with its flags (42_alu8.md R158). -/
def or8 (a b : Byte) : Byte × Flags := (a ||| b, logicFlags (a ||| b) false)

/-- Increment with its flags; C is the old one (42_alu8.md R160). -/
def inc8 (orig : Byte) (f : Flags) : Byte × Flags :=
  let result := orig + 1#8
  (result, { z := result == 0#8, n := false, h := decide (orig.toNat % 16 = 0x0F), c := f.c })

/-- Decrement with its flags; C is the old one (42_alu8.md R162). -/
def dec8 (orig : Byte) (f : Flags) : Byte × Flags :=
  let result := orig - 1#8
  (result, { z := result == 0#8, n := true, h := decide (orig.toNat % 16 = 0x00), c := f.c })

/-- The 16-bit add into HL: H is the carry out of bit 11, C out of bit 15, Z is the old one (43_alu16.md R180). -/
def addHl16 (hl val : Word) (f : Flags) : Word × Flags :=
  (BitVec.ofNat 16 (hl.toNat + val.toNat),
    { z := f.z
      n := false
      h := decide (hl.toNat % 0x1000 + val.toNat % 0x1000 > 0x0FFF)
      c := decide (hl.toNat + val.toNat > 0xFFFF) })

/-- `AddSPe(sp, e8)` with the flags its users store, Z = N = 0 (41_loads16_stack.md R139, R133; 43_alu16.md R183). `rule` is
`SPADD_NEG_RULE`: under `carry` a negative byte is treated as the non-negative ones are, as an unsigned byte. -/
def addSpE8 (rule : SpAddNegRule) (sp : Word) (e : Byte) : Word × Flags :=
  let carryH := decide (sp.toNat % 16 + e.toNat % 16 > 0x0F)
  let carryC := decide (sp.toNat % 256 + e.toNat > 0xFF)
  if e.getLsbD 7 = false then
    (BitVec.ofNat 16 (sp.toNat + e.toNat), { z := false, n := false, h := carryH, c := carryC })
  else
    let m := 256 - e.toNat
    let result := BitVec.ofInt 16 ((sp.toNat : Int) - m)
    match rule with
    | .borrow =>
      (result, { z := false, n := false, h := decide (m % 16 > sp.toNat % 16), c := decide (m % 256 > sp.toNat % 256) })
    | .carry => (result, { z := false, n := false, h := carryH, c := carryC })

/-- A carry as the byte 0 or 1. -/
def carryByte (c : Bool) : Byte := if c then 1#8 else 0#8

/-- `Rot(y, v, cin) -> (res, cout)` (44_rotates_cb.md R194). -/
def rot8 (k : RotOp) (v : Byte) (cin : Bool) : Byte × Bool :=
  match k with
  | .rlc => ((v <<< 1) ||| carryByte (v.getLsbD 7), v.getLsbD 7)
  | .rrc => ((v >>> 1) ||| (carryByte (v.getLsbD 0) <<< 7), v.getLsbD 0)
  | .rl => ((v <<< 1) ||| carryByte cin, v.getLsbD 7)
  | .rr => ((v >>> 1) ||| (carryByte cin <<< 7), v.getLsbD 0)
  | .sla => (v <<< 1, v.getLsbD 7)
  | .sra => ((v >>> 1) ||| (v &&& 0x80#8), v.getLsbD 0)
  | .swap => (((v &&& 0x0F#8) <<< 4) ||| (v >>> 4), false)
  | .srl => (v >>> 1, v.getLsbD 0)

/-- The flags of the prefixed rotates and shifts: Z of the result, N = H = 0, C the carry-out (R195 to R202). -/
def rotFlags (r : Byte × Bool) : Flags := { z := r.1 == 0#8, n := false, h := false, c := r.2 }

/-- The rotate an accumulator rotate performs (R190 to R193). -/
def accRotOp : AccRot → RotOp
  | .rlca => .rlc
  | .rrca => .rrc
  | .rla => .rl
  | .rra => .rr

/-- The flags of the accumulator rotates: Z is 0, or follows the result under `ROTA_Z_FROM_RESULT` (R190 to R193). -/
def accRotFlags (zFromResult : Bool) (r : Byte × Bool) : Flags :=
  { z := zFromResult && (r.1 == 0#8), n := false, h := false, c := r.2 }

/-- The flags of BIT: Z is set when the tested bit is 0, N = 0, H = 1, C is the old one (R203). -/
def bitFlags (v : Byte) (b : Idx) (f : Flags) : Flags := { z := !v.getLsbD b.field, n := false, h := true, c := f.c }

end Sys2Proof.Machine
end

