-- ==== Sys2Proof/Machine/Access.lean ====
section
/-! DEFINITION. The memory accesses of one step, in the order they reach the interface (20_memory.md R53). With one agent and a
memory without side effects the order is not observable by a program (R53), so `step` does not carry the list: it is given
beside it, and the claims tie the two together (log entry 12). -/

namespace Sys2Proof.Machine

/-- One access of the memory interface (20_memory.md R41): an instruction fetch, a data read or a data write. -/
inductive Access
  | fetch (addr : Word) (v : Byte)
  | read (addr : Word) (v : Byte)
  | write (addr : Word) (v : Byte)
  deriving DecidableEq, Repr

/-- A data read of the byte now at an address. -/
def readAt (s : State) (addr : Word) : Access := .read addr (s.memRead addr)

/-- The access that reading `R8[i]` makes: one for (HL), none for a register. -/
def readR8Accesses (r : R8) (s : State) : List Access := if r = .mhl then [readAt s s.hl] else []

/-- The access that writing `R8[i]` makes: one for (HL), none for a register. -/
def writeR8Accesses (r : R8) (v : Byte) (s : State) : List Access := if r = .mhl then [.write s.hl v] else []

/-- The accesses of `Push16(v)`: high byte at SP-1, then low byte at SP-2. -/
def pushAccesses (v : Word) (s : State) : List Access :=
  [.write (s.sp - 1#16) (hiByte v), .write (s.sp - 2#16) (loByte v)]

/-- The accesses of `Pop16()`: low byte at SP, then high byte at SP+1. -/
def popAccesses (s : State) : List Access := [readAt s s.sp, readAt s (s.sp + 1#16)]

/-- The data accesses of an instruction in order, from the state its execute phase begins in (the table of R53). -/
def formAccesses (f : Form) (s : State) : List Access :=
  match f with
  | .ld dst src => readR8Accesses src s ++ writeR8Accesses dst (s.readR8 src) s
  | .ldImm dst n => writeR8Accesses dst n s
  | .ldIndA m => [.write (s.addrR16Mem m) s.a]
  | .ldAInd m => [readAt s (s.addrR16Mem m)]
  | .ldAAbs n => [readAt s n]
  | .ldAbsA n => [.write n s.a]
  | .ldhAC => [readAt s (ioPage s.c)]
  | .ldhCA => [.write (ioPage s.c) s.a]
  | .ldhAImm n => [readAt s (ioPage n)]
  | .ldhImmA n => [.write (ioPage n) s.a]
  | .ldAbsSp n => [.write n (loByte s.sp), .write (n + 1#16) (hiByte s.sp)]
  | .push p => pushAccesses (s.readR16Stk p) s
  | .pop _ => popAccesses s
  | .alu _ src => readR8Accesses src s
  | .inc r => readR8Accesses r s ++ writeR8Accesses r (s.readR8 r + 1#8) s
  | .dec r => readR8Accesses r s ++ writeR8Accesses r (s.readR8 r - 1#8) s
  | .rot k r => readR8Accesses r s ++ writeR8Accesses r (rot8 k (s.readR8 r) s.flags.c).1 s
  | .bit _ r => readR8Accesses r s
  | .res b r => readR8Accesses r s ++ writeR8Accesses r (s.readR8 r &&& ~~~(1#8 <<< b.field)) s
  | .set b r => readR8Accesses r s ++ writeR8Accesses r (s.readR8 r ||| (1#8 <<< b.field)) s
  | .call _ => pushAccesses s.pc s
  | .callCond cc _ => if s.flags.holds cc then pushAccesses s.pc s else []
  | .rst _ => pushAccesses s.pc s
  | .ret => popAccesses s
  | .retCond cc => if s.flags.holds cc then popAccesses s else []
  | .nop | .ldPair _ _ | .ldSpHl | .ldHlSpE _ | .aluImm _ _ | .cpl | .scf | .ccf => []
  | .addHl _ | .incPair _ | .decPair _ | .addSp _ | .accRot _ => []
  | .jp _ | .jpCond _ _ | .jpHl | .jr _ | .jrCond _ _ | .stops _ => []
  | .escape _ => []

/-- The data accesses of an instruction; those of the escape byte's row are the prefixed instruction's. -/
def dataAccesses (i : Instr) (s : State) : List Access :=
  match i.form with
  | .escape op2 => formAccesses (prefixedForm op2) s
  | f => formAccesses f s

/-- `n` fetches from PC on, at increasing addresses modulo 65536. -/
def fetchAccesses : Nat → State → List Access
  | 0, _ => []
  | n + 1, s => .fetch s.pc (s.memRead s.pc) :: fetchAccesses n s.fetch8.2

/-- Every access of the step from a state, in order: the fetches of the instruction's bytes, then its data accesses. -/
def stepAccesses (s : State) : List Access :=
  fetchAccesses (instrLength (s.memRead s.pc)) s ++
    match s.fetchDecode with
    | (.instr i _, s1) => dataAccesses i s1
    | (.reject _, _) => []

/-- The writes of a list of accesses, done in order. -/
def replayWrites : List Access → State → State
  | [], s => s
  | .write addr v :: rest, s => replayWrites rest (s.memWrite addr v)
  | _ :: rest, s => replayWrites rest s

end Sys2Proof.Machine
end

