-- ==== Sys2Proof/Machine/Alu16.lean ====
section
/-! DEFINITION. The 16-bit arithmetic (43_alu16.md). -/

namespace Sys2Proof.Machine

/-! ### Shared operations -/

/-- `HL <- (HL + R16[p]) mod 2^16`; N, H, C written, Z unaffected (R180). -/
def addPairToHl (p : R16) (s : State) : State :=
  let r := addHl16 s.hl (s.readR16 p) s.flags
  (s.setHl r.1).setFlags r.2

/-- `R16[p] <- (R16[p] + 1) mod 2^16`, no flag (R181). -/
def incR16 (p : R16) (s : State) : State := s.writeR16 p (s.readR16 p + 1#16)

/-- `R16[p] <- (R16[p] - 1) mod 2^16`, no flag (R182). -/
def decR16 (p : R16) (s : State) : State := s.writeR16 p (s.readR16 p - 1#16)

/-- `SP <- SP + e8` with the flags of `AddSPe` (R183; 41_loads16_stack.md R139). -/
def addToSp (e : Byte) (s : State) : State :=
  let r := addSpE8 Config.spAddNegRule s.sp e
  (s.setSp r.1).setFlags r.2

/-! ### ADD HL,rr (R180) -/

def exec_add_hl_bc (s : State) : Result := .next (addPairToHl .bc s)
def exec_add_hl_de (s : State) : Result := .next (addPairToHl .de s)
def exec_add_hl_hl (s : State) : Result := .next (addPairToHl .hl s)
def exec_add_hl_sp (s : State) : Result := .next (addPairToHl .sp s)

/-! ### INC rr (R181) -/

def exec_inc_bc (s : State) : Result := .next (incR16 .bc s)
def exec_inc_de (s : State) : Result := .next (incR16 .de s)
def exec_inc_hl (s : State) : Result := .next (incR16 .hl s)
def exec_inc_sp (s : State) : Result := .next (incR16 .sp s)

/-! ### DEC rr (R182) -/

def exec_dec_bc (s : State) : Result := .next (decR16 .bc s)
def exec_dec_de (s : State) : Result := .next (decR16 .de s)
def exec_dec_hl (s : State) : Result := .next (decR16 .hl s)
def exec_dec_sp (s : State) : Result := .next (decR16 .sp s)

/-! ### ADD SP,e8 (R183) -/

def exec_add_sp_e8 (e8 : Byte) (s : State) : Result := .next (addToSp e8 s)

end Sys2Proof.Machine
end

