-- ==== Sys2Proof/Machine/Alu8.lean ====
section
/-! DEFINITION. The 8-bit arithmetic and logic (42_alu8.md). -/

namespace Sys2Proof.Machine

/-! ### Shared operations -/

/-- The result of an ALU operation and its flags, from A, the second operand and the old flags (R152 to R159). -/
def aluResult (op : AluOp) (a b : Byte) (f : Flags) : Byte × Flags :=
  match op with
  | .add => add8 a b false
  | .adc => add8 a b f.c
  | .sub => sub8 a b false
  | .sbc => sub8 a b f.c
  | .and => and8 Config.andSetsH a b
  | .xor => xor8 a b
  | .or => or8 a b
  | .cp => sub8 a b false

/-- One of the eight ALU operations on A and a byte: the result goes to A, but for CP, which writes the flags alone (R152 to
R159, R167). -/
def aluByte (op : AluOp) (b : Byte) (s : State) : State :=
  let r := aluResult op s.a b s.flags
  match op with
  | .cp => s.setFlags r.2
  | _ => (s.setA r.1).setFlags r.2

/-- The register and (HL) forms: the second operand is `R8[z]` (R167). -/
def aluR8 (op : AluOp) (src : R8) (s : State) : State := aluByte op (s.readR8 src) s

/-- INC r and INC (HL) (R160, R161). -/
def incR8 (r : R8) (s : State) : State :=
  let x := inc8 (s.readR8 r) s.flags
  (s.writeR8 r x.1).setFlags x.2

/-- DEC r and DEC (HL) (R162, R163). -/
def decR8 (r : R8) (s : State) : State :=
  let x := dec8 (s.readR8 r) s.flags
  (s.writeR8 r x.1).setFlags x.2

/-- CPL: `A <- ~A`, N = H = 1, Z and C unaffected (R164). -/
def complementA (s : State) : State := (s.setA (~~~s.a)).setFlags { s.flags with n := true, h := true }

/-- SCF: N = H = 0, C = 1, Z unaffected (R165). -/
def setCarry (s : State) : State := s.setFlags { s.flags with n := false, h := false, c := true }

/-- CCF: N = H = 0, C inverted, Z unaffected (R166). -/
def complementCarry (s : State) : State := s.setFlags { s.flags with n := false, h := false, c := !s.flags.c }

/-! ### ADD A,x (R152) -/

def exec_add_a_b (s : State) : Result := .next (aluR8 .add .b s)
def exec_add_a_c (s : State) : Result := .next (aluR8 .add .c s)
def exec_add_a_d (s : State) : Result := .next (aluR8 .add .d s)
def exec_add_a_e (s : State) : Result := .next (aluR8 .add .e s)
def exec_add_a_h (s : State) : Result := .next (aluR8 .add .h s)
def exec_add_a_l (s : State) : Result := .next (aluR8 .add .l s)
def exec_add_a_mhl (s : State) : Result := .next (aluR8 .add .mhl s)
def exec_add_a_a (s : State) : Result := .next (aluR8 .add .a s)
def exec_add_a_n8 (n8 : Byte) (s : State) : Result := .next (aluByte .add n8 s)

/-! ### ADC A,x (R153) -/

def exec_adc_a_b (s : State) : Result := .next (aluR8 .adc .b s)
def exec_adc_a_c (s : State) : Result := .next (aluR8 .adc .c s)
def exec_adc_a_d (s : State) : Result := .next (aluR8 .adc .d s)
def exec_adc_a_e (s : State) : Result := .next (aluR8 .adc .e s)
def exec_adc_a_h (s : State) : Result := .next (aluR8 .adc .h s)
def exec_adc_a_l (s : State) : Result := .next (aluR8 .adc .l s)
def exec_adc_a_mhl (s : State) : Result := .next (aluR8 .adc .mhl s)
def exec_adc_a_a (s : State) : Result := .next (aluR8 .adc .a s)
def exec_adc_a_n8 (n8 : Byte) (s : State) : Result := .next (aluByte .adc n8 s)

/-! ### SUB x (R154) -/

def exec_sub_b (s : State) : Result := .next (aluR8 .sub .b s)
def exec_sub_c (s : State) : Result := .next (aluR8 .sub .c s)
def exec_sub_d (s : State) : Result := .next (aluR8 .sub .d s)
def exec_sub_e (s : State) : Result := .next (aluR8 .sub .e s)
def exec_sub_h (s : State) : Result := .next (aluR8 .sub .h s)
def exec_sub_l (s : State) : Result := .next (aluR8 .sub .l s)
def exec_sub_mhl (s : State) : Result := .next (aluR8 .sub .mhl s)
def exec_sub_a (s : State) : Result := .next (aluR8 .sub .a s)
def exec_sub_n8 (n8 : Byte) (s : State) : Result := .next (aluByte .sub n8 s)

/-! ### SBC A,x (R155) -/

def exec_sbc_a_b (s : State) : Result := .next (aluR8 .sbc .b s)
def exec_sbc_a_c (s : State) : Result := .next (aluR8 .sbc .c s)
def exec_sbc_a_d (s : State) : Result := .next (aluR8 .sbc .d s)
def exec_sbc_a_e (s : State) : Result := .next (aluR8 .sbc .e s)
def exec_sbc_a_h (s : State) : Result := .next (aluR8 .sbc .h s)
def exec_sbc_a_l (s : State) : Result := .next (aluR8 .sbc .l s)
def exec_sbc_a_mhl (s : State) : Result := .next (aluR8 .sbc .mhl s)
def exec_sbc_a_a (s : State) : Result := .next (aluR8 .sbc .a s)
def exec_sbc_a_n8 (n8 : Byte) (s : State) : Result := .next (aluByte .sbc n8 s)

/-! ### AND x (R156) -/

def exec_and_b (s : State) : Result := .next (aluR8 .and .b s)
def exec_and_c (s : State) : Result := .next (aluR8 .and .c s)
def exec_and_d (s : State) : Result := .next (aluR8 .and .d s)
def exec_and_e (s : State) : Result := .next (aluR8 .and .e s)
def exec_and_h (s : State) : Result := .next (aluR8 .and .h s)
def exec_and_l (s : State) : Result := .next (aluR8 .and .l s)
def exec_and_mhl (s : State) : Result := .next (aluR8 .and .mhl s)
def exec_and_a (s : State) : Result := .next (aluR8 .and .a s)
def exec_and_n8 (n8 : Byte) (s : State) : Result := .next (aluByte .and n8 s)

/-! ### XOR x (R157) -/

def exec_xor_b (s : State) : Result := .next (aluR8 .xor .b s)
def exec_xor_c (s : State) : Result := .next (aluR8 .xor .c s)
def exec_xor_d (s : State) : Result := .next (aluR8 .xor .d s)
def exec_xor_e (s : State) : Result := .next (aluR8 .xor .e s)
def exec_xor_h (s : State) : Result := .next (aluR8 .xor .h s)
def exec_xor_l (s : State) : Result := .next (aluR8 .xor .l s)
def exec_xor_mhl (s : State) : Result := .next (aluR8 .xor .mhl s)
def exec_xor_a (s : State) : Result := .next (aluR8 .xor .a s)
def exec_xor_n8 (n8 : Byte) (s : State) : Result := .next (aluByte .xor n8 s)

/-! ### OR x (R158) -/

def exec_or_b (s : State) : Result := .next (aluR8 .or .b s)
def exec_or_c (s : State) : Result := .next (aluR8 .or .c s)
def exec_or_d (s : State) : Result := .next (aluR8 .or .d s)
def exec_or_e (s : State) : Result := .next (aluR8 .or .e s)
def exec_or_h (s : State) : Result := .next (aluR8 .or .h s)
def exec_or_l (s : State) : Result := .next (aluR8 .or .l s)
def exec_or_mhl (s : State) : Result := .next (aluR8 .or .mhl s)
def exec_or_a (s : State) : Result := .next (aluR8 .or .a s)
def exec_or_n8 (n8 : Byte) (s : State) : Result := .next (aluByte .or n8 s)

/-! ### CP x (R159) -/

def exec_cp_b (s : State) : Result := .next (aluR8 .cp .b s)
def exec_cp_c (s : State) : Result := .next (aluR8 .cp .c s)
def exec_cp_d (s : State) : Result := .next (aluR8 .cp .d s)
def exec_cp_e (s : State) : Result := .next (aluR8 .cp .e s)
def exec_cp_h (s : State) : Result := .next (aluR8 .cp .h s)
def exec_cp_l (s : State) : Result := .next (aluR8 .cp .l s)
def exec_cp_mhl (s : State) : Result := .next (aluR8 .cp .mhl s)
def exec_cp_a (s : State) : Result := .next (aluR8 .cp .a s)
def exec_cp_n8 (n8 : Byte) (s : State) : Result := .next (aluByte .cp n8 s)

/-! ### INC r; INC (HL) (R160, R161) -/

def exec_inc_b (s : State) : Result := .next (incR8 .b s)
def exec_inc_c (s : State) : Result := .next (incR8 .c s)
def exec_inc_d (s : State) : Result := .next (incR8 .d s)
def exec_inc_e (s : State) : Result := .next (incR8 .e s)
def exec_inc_h (s : State) : Result := .next (incR8 .h s)
def exec_inc_l (s : State) : Result := .next (incR8 .l s)
def exec_inc_mhl (s : State) : Result := .next (incR8 .mhl s)
def exec_inc_a (s : State) : Result := .next (incR8 .a s)

/-! ### DEC r; DEC (HL) (R162, R163) -/

def exec_dec_b (s : State) : Result := .next (decR8 .b s)
def exec_dec_c (s : State) : Result := .next (decR8 .c s)
def exec_dec_d (s : State) : Result := .next (decR8 .d s)
def exec_dec_e (s : State) : Result := .next (decR8 .e s)
def exec_dec_h (s : State) : Result := .next (decR8 .h s)
def exec_dec_l (s : State) : Result := .next (decR8 .l s)
def exec_dec_mhl (s : State) : Result := .next (decR8 .mhl s)
def exec_dec_a (s : State) : Result := .next (decR8 .a s)

/-! ### CPL; SCF; CCF (R164 to R166) -/

def exec_cpl (s : State) : Result := .next (complementA s)
def exec_scf (s : State) : Result := .next (setCarry s)
def exec_ccf (s : State) : Result := .next (complementCarry s)

end Sys2Proof.Machine
end

