-- ==== Sys2Proof/Machine/Control.lean ====
section
/-! DEFINITION. Control transfer (45_control.md). No instruction of this file writes a flag; PC is the address after the instruction. -/

namespace Sys2Proof.Machine

/-! ### Shared operations -/

/-- NOP: nothing (R220). -/
def noOperation (s : State) : State := s

/-- `PC <- n16` (R221). -/
def jump (n : Word) (s : State) : State := s.setPc n

/-- `if COND[y]: PC <- n16` (R222, R231). -/
def jumpIf (cc : Cond) (n : Word) (s : State) : State := if s.flags.holds cc then jump n s else s

/-- `PC <- HL` (R223). -/
def jumpHl (s : State) : State := jump s.hl s

/-- `PC <- (PC + sext_16(e8)) mod 2^16` (R224). -/
def jumpRel (e : Byte) (s : State) : State := jump (s.pc + sext16 e) s

/-- `if COND[y-4]: PC <- (PC + sext_16(e8)) mod 2^16` (R225, R231). -/
def jumpRelIf (cc : Cond) (e : Byte) (s : State) : State := if s.flags.holds cc then jumpRel e s else s

/-- `Push16(PC)`, then `PC <- n16` (R226). -/
def callSub (n : Word) (s : State) : State := jump n (s.push16 s.pc)

/-- `if COND[y]: Push16(PC); PC <- n16` (R227, R231). -/
def callSubIf (cc : Cond) (n : Word) (s : State) : State := if s.flags.holds cc then callSub n s else s

/-- `PC <- Pop16()` (R228). -/
def returnSub (s : State) : State :=
  let (v, s1) := s.pop16
  jump v s1

/-- `if COND[y]: PC <- Pop16()` (R229, R231). -/
def returnSubIf (cc : Cond) (s : State) : State := if s.flags.holds cc then returnSub s else s

/-- RST vec: a call of the restart vector (R230). -/
def restart (v : Idx) (s : State) : State := callSub (restartVector v) s

/-! ### NOP (R220) -/

def exec_nop (s : State) : Result := .next (noOperation s)

/-! ### Jumps (R221 to R225) -/

def exec_jr_e8 (e8 : Byte) (s : State) : Result := .next (jumpRel e8 s)
def exec_jr_nz_e8 (e8 : Byte) (s : State) : Result := .next (jumpRelIf .nz e8 s)
def exec_jr_z_e8 (e8 : Byte) (s : State) : Result := .next (jumpRelIf .z e8 s)
def exec_jr_nc_e8 (e8 : Byte) (s : State) : Result := .next (jumpRelIf .nc e8 s)
def exec_jr_c_e8 (e8 : Byte) (s : State) : Result := .next (jumpRelIf .c e8 s)
def exec_jp_nz_n16 (n16 : Word) (s : State) : Result := .next (jumpIf .nz n16 s)
def exec_jp_n16 (n16 : Word) (s : State) : Result := .next (jump n16 s)
def exec_jp_z_n16 (n16 : Word) (s : State) : Result := .next (jumpIf .z n16 s)
def exec_jp_nc_n16 (n16 : Word) (s : State) : Result := .next (jumpIf .nc n16 s)
def exec_jp_c_n16 (n16 : Word) (s : State) : Result := .next (jumpIf .c n16 s)
def exec_jp_hl (s : State) : Result := .next (jumpHl s)

/-! ### Calls (R226, R227) -/

def exec_call_nz_n16 (n16 : Word) (s : State) : Result := .next (callSubIf .nz n16 s)
def exec_call_z_n16 (n16 : Word) (s : State) : Result := .next (callSubIf .z n16 s)
def exec_call_n16 (n16 : Word) (s : State) : Result := .next (callSub n16 s)
def exec_call_nc_n16 (n16 : Word) (s : State) : Result := .next (callSubIf .nc n16 s)
def exec_call_c_n16 (n16 : Word) (s : State) : Result := .next (callSubIf .c n16 s)

/-! ### Returns (R228, R229) -/

def exec_ret_nz (s : State) : Result := .next (returnSubIf .nz s)
def exec_ret_z (s : State) : Result := .next (returnSubIf .z s)
def exec_ret (s : State) : Result := .next (returnSub s)
def exec_ret_nc (s : State) : Result := .next (returnSubIf .nc s)
def exec_ret_c (s : State) : Result := .next (returnSubIf .c s)

/-! ### Restarts (R230) -/

def exec_rst_00 (s : State) : Result := .next (restart .i0 s)
def exec_rst_08 (s : State) : Result := .next (restart .i1 s)
def exec_rst_10 (s : State) : Result := .next (restart .i2 s)
def exec_rst_18 (s : State) : Result := .next (restart .i3 s)
def exec_rst_20 (s : State) : Result := .next (restart .i4 s)
def exec_rst_28 (s : State) : Result := .next (restart .i5 s)
def exec_rst_30 (s : State) : Result := .next (restart .i6 s)
def exec_rst_38 (s : State) : Result := .next (restart .i7 s)

end Sys2Proof.Machine
end

