-- ==== Sys2Proof/Machine/Loads16.lean ====
section
/-! DEFINITION. The 16-bit loads and the stack (41_loads16_stack.md). Only LD HL,SP+e8 and POP AF write flags. -/

namespace Sys2Proof.Machine

/-! ### Shared operations -/

/-- `R16[p] <- n16` (R130). -/
def loadPair (p : R16) (n : Word) (s : State) : State := s.writeR16 p n

/-- `MemWrite(n16, 1, SP[7:0])`, then `MemWrite((n16 + 1) mod 2^16, 1, SP[15:8])` (R131; 20_memory.md R46). -/
def storeSp (n : Word) (s : State) : State := (s.memWrite n (loByte s.sp)).memWrite (n + 1#16) (hiByte s.sp)

/-- `SP <- HL` (R132). -/
def copyHlToSp (s : State) : State := s.setSp s.hl

/-- `HL <- SP + e8` with the flags of `AddSPe` (R133, R139). -/
def loadHlSpE (e : Byte) (s : State) : State :=
  let r := addSpE8 Config.spAddNegRule s.sp e
  (s.setHl r.1).setFlags r.2

/-- `Push16(R16STK[p])` (R134, R137). -/
def pushPair (p : R16Stk) (s : State) : State := s.push16 (s.readR16Stk p)

/-- `R16STK[p] <- Pop16()` (R135, R136). -/
def popPair (p : R16Stk) (s : State) : State :=
  let (v, s1) := s.pop16
  s1.writeR16Stk p v

/-! ### LD rr,n16 (R130) -/

def exec_ld_bc_n16 (n16 : Word) (s : State) : Result := .next (loadPair .bc n16 s)
def exec_ld_de_n16 (n16 : Word) (s : State) : Result := .next (loadPair .de n16 s)
def exec_ld_hl_n16 (n16 : Word) (s : State) : Result := .next (loadPair .hl n16 s)
def exec_ld_sp_n16 (n16 : Word) (s : State) : Result := .next (loadPair .sp n16 s)

/-! ### LD (n16),SP; LD SP,HL; LD HL,SP+e8 (R131 to R133) -/

def exec_ld_mn16_sp (n16 : Word) (s : State) : Result := .next (storeSp n16 s)
def exec_ld_hl_spe8 (e8 : Byte) (s : State) : Result := .next (loadHlSpE e8 s)
def exec_ld_sp_hl (s : State) : Result := .next (copyHlToSp s)

/-! ### PUSH (R134, R137) -/

def exec_push_bc (s : State) : Result := .next (pushPair .bc s)
def exec_push_de (s : State) : Result := .next (pushPair .de s)
def exec_push_hl (s : State) : Result := .next (pushPair .hl s)
def exec_push_af (s : State) : Result := .next (pushPair .af s)

/-! ### POP (R135, R136) -/

def exec_pop_bc (s : State) : Result := .next (popPair .bc s)
def exec_pop_de (s : State) : Result := .next (popPair .de s)
def exec_pop_hl (s : State) : Result := .next (popPair .hl s)
def exec_pop_af (s : State) : Result := .next (popPair .af s)

end Sys2Proof.Machine
end

