-- ==== Sys2Proof/Machine/Loads8.lean ====
section
/-! DEFINITION. The 8-bit loads (40_loads8.md). None writes a flag, and every address is computed before anything is written (R119).
PC is already past the instruction when a meaning runs (10_state.md R16); so in every family file. -/

namespace Sys2Proof.Machine

/-! ### Shared operations -/

/-- `R8[y] <- R8[z]` (R100, R102, R103). -/
def copyR8 (dst src : R8) (s : State) : State := s.writeR8 dst (s.readR8 src)

/-- `R8[y] <- n8` (R101, R104). -/
def loadImm8 (dst : R8) (n : Byte) (s : State) : State := s.writeR8 dst n

/-- `A <- MemRead(addr, 1)`. -/
def loadA (addr : Word) (s : State) : State := s.setA (s.memRead addr)

/-- `MemWrite(addr, 1, A)`. -/
def storeA (addr : Word) (s : State) : State := s.memWrite addr s.a

/-- `A <- MemRead(R16MEM[p], 1)`, then HL+1 or HL-1 for (HL+) and (HL-) (R105, R106, R116, R118). -/
def loadAInd (m : R16Mem) (s : State) : State :=
  let addr := s.addrR16Mem m
  (loadA addr s).stepR16Mem m addr

/-- `MemWrite(R16MEM[p], 1, A)`, then HL+1 or HL-1 for (HL+) and (HL-) (R107, R108, R115, R117). -/
def storeAInd (m : R16Mem) (s : State) : State :=
  let addr := s.addrR16Mem m
  (storeA addr s).stepR16Mem m addr

/-- `A <- MemRead(0xFF00 + C, 1)` (R111). -/
def loadAIoC (s : State) : State := loadA (ioPage s.c) s

/-- `MemWrite(0xFF00 + C, 1, A)` (R112). -/
def storeAIoC (s : State) : State := storeA (ioPage s.c) s

/-- `A <- MemRead(0xFF00 + n8, 1)` (R113). -/
def loadAIo (n : Byte) (s : State) : State := loadA (ioPage n) s

/-- `MemWrite(0xFF00 + n8, 1, A)` (R114). -/
def storeAIo (n : Byte) (s : State) : State := storeA (ioPage n) s

/-! ### LD r,r' (R100) -/

def exec_ld_b_b (s : State) : Result := .next (copyR8 .b .b s)
def exec_ld_b_c (s : State) : Result := .next (copyR8 .b .c s)
def exec_ld_b_d (s : State) : Result := .next (copyR8 .b .d s)
def exec_ld_b_e (s : State) : Result := .next (copyR8 .b .e s)
def exec_ld_b_h (s : State) : Result := .next (copyR8 .b .h s)
def exec_ld_b_l (s : State) : Result := .next (copyR8 .b .l s)
def exec_ld_b_a (s : State) : Result := .next (copyR8 .b .a s)
def exec_ld_c_b (s : State) : Result := .next (copyR8 .c .b s)
def exec_ld_c_c (s : State) : Result := .next (copyR8 .c .c s)
def exec_ld_c_d (s : State) : Result := .next (copyR8 .c .d s)
def exec_ld_c_e (s : State) : Result := .next (copyR8 .c .e s)
def exec_ld_c_h (s : State) : Result := .next (copyR8 .c .h s)
def exec_ld_c_l (s : State) : Result := .next (copyR8 .c .l s)
def exec_ld_c_a (s : State) : Result := .next (copyR8 .c .a s)
def exec_ld_d_b (s : State) : Result := .next (copyR8 .d .b s)
def exec_ld_d_c (s : State) : Result := .next (copyR8 .d .c s)
def exec_ld_d_d (s : State) : Result := .next (copyR8 .d .d s)
def exec_ld_d_e (s : State) : Result := .next (copyR8 .d .e s)
def exec_ld_d_h (s : State) : Result := .next (copyR8 .d .h s)
def exec_ld_d_l (s : State) : Result := .next (copyR8 .d .l s)
def exec_ld_d_a (s : State) : Result := .next (copyR8 .d .a s)
def exec_ld_e_b (s : State) : Result := .next (copyR8 .e .b s)
def exec_ld_e_c (s : State) : Result := .next (copyR8 .e .c s)
def exec_ld_e_d (s : State) : Result := .next (copyR8 .e .d s)
def exec_ld_e_e (s : State) : Result := .next (copyR8 .e .e s)
def exec_ld_e_h (s : State) : Result := .next (copyR8 .e .h s)
def exec_ld_e_l (s : State) : Result := .next (copyR8 .e .l s)
def exec_ld_e_a (s : State) : Result := .next (copyR8 .e .a s)
def exec_ld_h_b (s : State) : Result := .next (copyR8 .h .b s)
def exec_ld_h_c (s : State) : Result := .next (copyR8 .h .c s)
def exec_ld_h_d (s : State) : Result := .next (copyR8 .h .d s)
def exec_ld_h_e (s : State) : Result := .next (copyR8 .h .e s)
def exec_ld_h_h (s : State) : Result := .next (copyR8 .h .h s)
def exec_ld_h_l (s : State) : Result := .next (copyR8 .h .l s)
def exec_ld_h_a (s : State) : Result := .next (copyR8 .h .a s)
def exec_ld_l_b (s : State) : Result := .next (copyR8 .l .b s)
def exec_ld_l_c (s : State) : Result := .next (copyR8 .l .c s)
def exec_ld_l_d (s : State) : Result := .next (copyR8 .l .d s)
def exec_ld_l_e (s : State) : Result := .next (copyR8 .l .e s)
def exec_ld_l_h (s : State) : Result := .next (copyR8 .l .h s)
def exec_ld_l_l (s : State) : Result := .next (copyR8 .l .l s)
def exec_ld_l_a (s : State) : Result := .next (copyR8 .l .a s)
def exec_ld_a_b (s : State) : Result := .next (copyR8 .a .b s)
def exec_ld_a_c (s : State) : Result := .next (copyR8 .a .c s)
def exec_ld_a_d (s : State) : Result := .next (copyR8 .a .d s)
def exec_ld_a_e (s : State) : Result := .next (copyR8 .a .e s)
def exec_ld_a_h (s : State) : Result := .next (copyR8 .a .h s)
def exec_ld_a_l (s : State) : Result := .next (copyR8 .a .l s)
def exec_ld_a_a (s : State) : Result := .next (copyR8 .a .a s)

/-! ### LD r,(HL) (R102) -/

def exec_ld_b_mhl (s : State) : Result := .next (copyR8 .b .mhl s)
def exec_ld_c_mhl (s : State) : Result := .next (copyR8 .c .mhl s)
def exec_ld_d_mhl (s : State) : Result := .next (copyR8 .d .mhl s)
def exec_ld_e_mhl (s : State) : Result := .next (copyR8 .e .mhl s)
def exec_ld_h_mhl (s : State) : Result := .next (copyR8 .h .mhl s)
def exec_ld_l_mhl (s : State) : Result := .next (copyR8 .l .mhl s)
def exec_ld_a_mhl (s : State) : Result := .next (copyR8 .a .mhl s)

/-! ### LD (HL),r (R103) -/

def exec_ld_mhl_b (s : State) : Result := .next (copyR8 .mhl .b s)
def exec_ld_mhl_c (s : State) : Result := .next (copyR8 .mhl .c s)
def exec_ld_mhl_d (s : State) : Result := .next (copyR8 .mhl .d s)
def exec_ld_mhl_e (s : State) : Result := .next (copyR8 .mhl .e s)
def exec_ld_mhl_h (s : State) : Result := .next (copyR8 .mhl .h s)
def exec_ld_mhl_l (s : State) : Result := .next (copyR8 .mhl .l s)
def exec_ld_mhl_a (s : State) : Result := .next (copyR8 .mhl .a s)

/-! ### LD r,n8 and LD (HL),n8 (R101, R104) -/

def exec_ld_b_n8 (n8 : Byte) (s : State) : Result := .next (loadImm8 .b n8 s)
def exec_ld_c_n8 (n8 : Byte) (s : State) : Result := .next (loadImm8 .c n8 s)
def exec_ld_d_n8 (n8 : Byte) (s : State) : Result := .next (loadImm8 .d n8 s)
def exec_ld_e_n8 (n8 : Byte) (s : State) : Result := .next (loadImm8 .e n8 s)
def exec_ld_h_n8 (n8 : Byte) (s : State) : Result := .next (loadImm8 .h n8 s)
def exec_ld_l_n8 (n8 : Byte) (s : State) : Result := .next (loadImm8 .l n8 s)
def exec_ld_mhl_n8 (n8 : Byte) (s : State) : Result := .next (loadImm8 .mhl n8 s)
def exec_ld_a_n8 (n8 : Byte) (s : State) : Result := .next (loadImm8 .a n8 s)

/-! ### LD A,(BC); LD A,(DE); LD A,(HL+); LD A,(HL-) (R105, R106, R116, R118) -/

def exec_ld_a_mbc (s : State) : Result := .next (loadAInd .bc s)
def exec_ld_a_mde (s : State) : Result := .next (loadAInd .de s)
def exec_ld_a_mhlInc (s : State) : Result := .next (loadAInd .hlInc s)
def exec_ld_a_mhlDec (s : State) : Result := .next (loadAInd .hlDec s)

/-! ### LD (BC),A; LD (DE),A; LD (HL+),A; LD (HL-),A (R107, R108, R115, R117) -/

def exec_ld_mbc_a (s : State) : Result := .next (storeAInd .bc s)
def exec_ld_mde_a (s : State) : Result := .next (storeAInd .de s)
def exec_ld_mhlInc_a (s : State) : Result := .next (storeAInd .hlInc s)
def exec_ld_mhlDec_a (s : State) : Result := .next (storeAInd .hlDec s)

/-! ### LD A,(n16); LD (n16),A (R109, R110) -/

def exec_ld_mn16_a (n16 : Word) (s : State) : Result := .next (storeA n16 s)
def exec_ld_a_mn16 (n16 : Word) (s : State) : Result := .next (loadA n16 s)

/-! ### LDH (R111 to R114) -/

def exec_ldh_mn8_a (n8 : Byte) (s : State) : Result := .next (storeAIo n8 s)
def exec_ldh_mc_a (s : State) : Result := .next (storeAIoC s)
def exec_ldh_a_mn8 (n8 : Byte) (s : State) : Result := .next (loadAIo n8 s)
def exec_ldh_a_mc (s : State) : Result := .next (loadAIoC s)

end Sys2Proof.Machine
end

