-- ==== Sys2Proof/Machine/Rotates.lean ====
section
/-! DEFINITION. Rotates, shifts and bit operations, and the escape byte (44_rotates_cb.md; 30_encoding.md R67, R69). -/

namespace Sys2Proof.Machine

/-! ### Shared operations -/

/-- An accumulator rotate (R190 to R193). -/
def rotateA (k : AccRot) (s : State) : State :=
  let r := rot8 (accRotOp k) s.a s.flags.c
  (s.setA r.1).setFlags (accRotFlags Config.rotaZFromResult r)

/-- A prefixed rotate, shift or SWAP (R195 to R202). -/
def rotateR8 (k : RotOp) (x : R8) (s : State) : State :=
  let r := rot8 k (s.readR8 x) s.flags.c
  (s.writeR8 x r.1).setFlags (rotFlags r)

/-- BIT b,x: the operand is read and not written (R203). -/
def testBit (b : Idx) (x : R8) (s : State) : State := s.setFlags (bitFlags (s.readR8 x) b s.flags)

/-- RES b,x: `R8[z] <- R8[z] & ~(1 << b)`, no flag (R204). -/
def resetBit (b : Idx) (x : R8) (s : State) : State := s.writeR8 x (s.readR8 x &&& ~~~(1#8 <<< b.field))

/-- SET b,x: `R8[z] <- R8[z] | (1 << b)`, no flag (R205). -/
def setBit (b : Idx) (x : R8) (s : State) : State := s.writeR8 x (s.readR8 x ||| (1#8 <<< b.field))

/-- The instruction of the prefixed space that an opcode byte selects by its fields (30_encoding.md R67, R69). -/
def runPrefixed (op2 : Byte) (s : State) : State :=
  let x := R8.ofField (fieldZ op2)
  match fieldX op2 with
  | 0 => rotateR8 (RotOp.ofField (fieldY op2)) x s
  | 1 => testBit (Idx.ofField (fieldY op2)) x s
  | 2 => resetBit (Idx.ofField (fieldY op2)) x s
  | _ => setBit (Idx.ofField (fieldY op2)) x s

/-! ### RLCA; RLA; RRCA; RRA (R190 to R193) -/

def exec_rlca (s : State) : Result := .next (rotateA .rlca s)
def exec_rrca (s : State) : Result := .next (rotateA .rrca s)
def exec_rla (s : State) : Result := .next (rotateA .rla s)
def exec_rra (s : State) : Result := .next (rotateA .rra s)

/-! ### RLC x (R195) -/

def exec_rlc_b (s : State) : Result := .next (rotateR8 .rlc .b s)
def exec_rlc_c (s : State) : Result := .next (rotateR8 .rlc .c s)
def exec_rlc_d (s : State) : Result := .next (rotateR8 .rlc .d s)
def exec_rlc_e (s : State) : Result := .next (rotateR8 .rlc .e s)
def exec_rlc_h (s : State) : Result := .next (rotateR8 .rlc .h s)
def exec_rlc_l (s : State) : Result := .next (rotateR8 .rlc .l s)
def exec_rlc_mhl (s : State) : Result := .next (rotateR8 .rlc .mhl s)
def exec_rlc_a (s : State) : Result := .next (rotateR8 .rlc .a s)

/-! ### RRC x (R196) -/

def exec_rrc_b (s : State) : Result := .next (rotateR8 .rrc .b s)
def exec_rrc_c (s : State) : Result := .next (rotateR8 .rrc .c s)
def exec_rrc_d (s : State) : Result := .next (rotateR8 .rrc .d s)
def exec_rrc_e (s : State) : Result := .next (rotateR8 .rrc .e s)
def exec_rrc_h (s : State) : Result := .next (rotateR8 .rrc .h s)
def exec_rrc_l (s : State) : Result := .next (rotateR8 .rrc .l s)
def exec_rrc_mhl (s : State) : Result := .next (rotateR8 .rrc .mhl s)
def exec_rrc_a (s : State) : Result := .next (rotateR8 .rrc .a s)

/-! ### RL x (R197) -/

def exec_rl_b (s : State) : Result := .next (rotateR8 .rl .b s)
def exec_rl_c (s : State) : Result := .next (rotateR8 .rl .c s)
def exec_rl_d (s : State) : Result := .next (rotateR8 .rl .d s)
def exec_rl_e (s : State) : Result := .next (rotateR8 .rl .e s)
def exec_rl_h (s : State) : Result := .next (rotateR8 .rl .h s)
def exec_rl_l (s : State) : Result := .next (rotateR8 .rl .l s)
def exec_rl_mhl (s : State) : Result := .next (rotateR8 .rl .mhl s)
def exec_rl_a (s : State) : Result := .next (rotateR8 .rl .a s)

/-! ### RR x (R198) -/

def exec_rr_b (s : State) : Result := .next (rotateR8 .rr .b s)
def exec_rr_c (s : State) : Result := .next (rotateR8 .rr .c s)
def exec_rr_d (s : State) : Result := .next (rotateR8 .rr .d s)
def exec_rr_e (s : State) : Result := .next (rotateR8 .rr .e s)
def exec_rr_h (s : State) : Result := .next (rotateR8 .rr .h s)
def exec_rr_l (s : State) : Result := .next (rotateR8 .rr .l s)
def exec_rr_mhl (s : State) : Result := .next (rotateR8 .rr .mhl s)
def exec_rr_a (s : State) : Result := .next (rotateR8 .rr .a s)

/-! ### SLA x (R199) -/

def exec_sla_b (s : State) : Result := .next (rotateR8 .sla .b s)
def exec_sla_c (s : State) : Result := .next (rotateR8 .sla .c s)
def exec_sla_d (s : State) : Result := .next (rotateR8 .sla .d s)
def exec_sla_e (s : State) : Result := .next (rotateR8 .sla .e s)
def exec_sla_h (s : State) : Result := .next (rotateR8 .sla .h s)
def exec_sla_l (s : State) : Result := .next (rotateR8 .sla .l s)
def exec_sla_mhl (s : State) : Result := .next (rotateR8 .sla .mhl s)
def exec_sla_a (s : State) : Result := .next (rotateR8 .sla .a s)

/-! ### SRA x (R200) -/

def exec_sra_b (s : State) : Result := .next (rotateR8 .sra .b s)
def exec_sra_c (s : State) : Result := .next (rotateR8 .sra .c s)
def exec_sra_d (s : State) : Result := .next (rotateR8 .sra .d s)
def exec_sra_e (s : State) : Result := .next (rotateR8 .sra .e s)
def exec_sra_h (s : State) : Result := .next (rotateR8 .sra .h s)
def exec_sra_l (s : State) : Result := .next (rotateR8 .sra .l s)
def exec_sra_mhl (s : State) : Result := .next (rotateR8 .sra .mhl s)
def exec_sra_a (s : State) : Result := .next (rotateR8 .sra .a s)

/-! ### SWAP x (R201) -/

def exec_swap_b (s : State) : Result := .next (rotateR8 .swap .b s)
def exec_swap_c (s : State) : Result := .next (rotateR8 .swap .c s)
def exec_swap_d (s : State) : Result := .next (rotateR8 .swap .d s)
def exec_swap_e (s : State) : Result := .next (rotateR8 .swap .e s)
def exec_swap_h (s : State) : Result := .next (rotateR8 .swap .h s)
def exec_swap_l (s : State) : Result := .next (rotateR8 .swap .l s)
def exec_swap_mhl (s : State) : Result := .next (rotateR8 .swap .mhl s)
def exec_swap_a (s : State) : Result := .next (rotateR8 .swap .a s)

/-! ### SRL x (R202) -/

def exec_srl_b (s : State) : Result := .next (rotateR8 .srl .b s)
def exec_srl_c (s : State) : Result := .next (rotateR8 .srl .c s)
def exec_srl_d (s : State) : Result := .next (rotateR8 .srl .d s)
def exec_srl_e (s : State) : Result := .next (rotateR8 .srl .e s)
def exec_srl_h (s : State) : Result := .next (rotateR8 .srl .h s)
def exec_srl_l (s : State) : Result := .next (rotateR8 .srl .l s)
def exec_srl_mhl (s : State) : Result := .next (rotateR8 .srl .mhl s)
def exec_srl_a (s : State) : Result := .next (rotateR8 .srl .a s)

/-! ### BIT b, x (R203) -/

def exec_bit_0_b (s : State) : Result := .next (testBit .i0 .b s)
def exec_bit_0_c (s : State) : Result := .next (testBit .i0 .c s)
def exec_bit_0_d (s : State) : Result := .next (testBit .i0 .d s)
def exec_bit_0_e (s : State) : Result := .next (testBit .i0 .e s)
def exec_bit_0_h (s : State) : Result := .next (testBit .i0 .h s)
def exec_bit_0_l (s : State) : Result := .next (testBit .i0 .l s)
def exec_bit_0_mhl (s : State) : Result := .next (testBit .i0 .mhl s)
def exec_bit_0_a (s : State) : Result := .next (testBit .i0 .a s)
def exec_bit_1_b (s : State) : Result := .next (testBit .i1 .b s)
def exec_bit_1_c (s : State) : Result := .next (testBit .i1 .c s)
def exec_bit_1_d (s : State) : Result := .next (testBit .i1 .d s)
def exec_bit_1_e (s : State) : Result := .next (testBit .i1 .e s)
def exec_bit_1_h (s : State) : Result := .next (testBit .i1 .h s)
def exec_bit_1_l (s : State) : Result := .next (testBit .i1 .l s)
def exec_bit_1_mhl (s : State) : Result := .next (testBit .i1 .mhl s)
def exec_bit_1_a (s : State) : Result := .next (testBit .i1 .a s)
def exec_bit_2_b (s : State) : Result := .next (testBit .i2 .b s)
def exec_bit_2_c (s : State) : Result := .next (testBit .i2 .c s)
def exec_bit_2_d (s : State) : Result := .next (testBit .i2 .d s)
def exec_bit_2_e (s : State) : Result := .next (testBit .i2 .e s)
def exec_bit_2_h (s : State) : Result := .next (testBit .i2 .h s)
def exec_bit_2_l (s : State) : Result := .next (testBit .i2 .l s)
def exec_bit_2_mhl (s : State) : Result := .next (testBit .i2 .mhl s)
def exec_bit_2_a (s : State) : Result := .next (testBit .i2 .a s)
def exec_bit_3_b (s : State) : Result := .next (testBit .i3 .b s)
def exec_bit_3_c (s : State) : Result := .next (testBit .i3 .c s)
def exec_bit_3_d (s : State) : Result := .next (testBit .i3 .d s)
def exec_bit_3_e (s : State) : Result := .next (testBit .i3 .e s)
def exec_bit_3_h (s : State) : Result := .next (testBit .i3 .h s)
def exec_bit_3_l (s : State) : Result := .next (testBit .i3 .l s)
def exec_bit_3_mhl (s : State) : Result := .next (testBit .i3 .mhl s)
def exec_bit_3_a (s : State) : Result := .next (testBit .i3 .a s)
def exec_bit_4_b (s : State) : Result := .next (testBit .i4 .b s)
def exec_bit_4_c (s : State) : Result := .next (testBit .i4 .c s)
def exec_bit_4_d (s : State) : Result := .next (testBit .i4 .d s)
def exec_bit_4_e (s : State) : Result := .next (testBit .i4 .e s)
def exec_bit_4_h (s : State) : Result := .next (testBit .i4 .h s)
def exec_bit_4_l (s : State) : Result := .next (testBit .i4 .l s)
def exec_bit_4_mhl (s : State) : Result := .next (testBit .i4 .mhl s)
def exec_bit_4_a (s : State) : Result := .next (testBit .i4 .a s)
def exec_bit_5_b (s : State) : Result := .next (testBit .i5 .b s)
def exec_bit_5_c (s : State) : Result := .next (testBit .i5 .c s)
def exec_bit_5_d (s : State) : Result := .next (testBit .i5 .d s)
def exec_bit_5_e (s : State) : Result := .next (testBit .i5 .e s)
def exec_bit_5_h (s : State) : Result := .next (testBit .i5 .h s)
def exec_bit_5_l (s : State) : Result := .next (testBit .i5 .l s)
def exec_bit_5_mhl (s : State) : Result := .next (testBit .i5 .mhl s)
def exec_bit_5_a (s : State) : Result := .next (testBit .i5 .a s)
def exec_bit_6_b (s : State) : Result := .next (testBit .i6 .b s)
def exec_bit_6_c (s : State) : Result := .next (testBit .i6 .c s)
def exec_bit_6_d (s : State) : Result := .next (testBit .i6 .d s)
def exec_bit_6_e (s : State) : Result := .next (testBit .i6 .e s)
def exec_bit_6_h (s : State) : Result := .next (testBit .i6 .h s)
def exec_bit_6_l (s : State) : Result := .next (testBit .i6 .l s)
def exec_bit_6_mhl (s : State) : Result := .next (testBit .i6 .mhl s)
def exec_bit_6_a (s : State) : Result := .next (testBit .i6 .a s)
def exec_bit_7_b (s : State) : Result := .next (testBit .i7 .b s)
def exec_bit_7_c (s : State) : Result := .next (testBit .i7 .c s)
def exec_bit_7_d (s : State) : Result := .next (testBit .i7 .d s)
def exec_bit_7_e (s : State) : Result := .next (testBit .i7 .e s)
def exec_bit_7_h (s : State) : Result := .next (testBit .i7 .h s)
def exec_bit_7_l (s : State) : Result := .next (testBit .i7 .l s)
def exec_bit_7_mhl (s : State) : Result := .next (testBit .i7 .mhl s)
def exec_bit_7_a (s : State) : Result := .next (testBit .i7 .a s)

/-! ### RES b, x (R204) -/

def exec_res_0_b (s : State) : Result := .next (resetBit .i0 .b s)
def exec_res_0_c (s : State) : Result := .next (resetBit .i0 .c s)
def exec_res_0_d (s : State) : Result := .next (resetBit .i0 .d s)
def exec_res_0_e (s : State) : Result := .next (resetBit .i0 .e s)
def exec_res_0_h (s : State) : Result := .next (resetBit .i0 .h s)
def exec_res_0_l (s : State) : Result := .next (resetBit .i0 .l s)
def exec_res_0_mhl (s : State) : Result := .next (resetBit .i0 .mhl s)
def exec_res_0_a (s : State) : Result := .next (resetBit .i0 .a s)
def exec_res_1_b (s : State) : Result := .next (resetBit .i1 .b s)
def exec_res_1_c (s : State) : Result := .next (resetBit .i1 .c s)
def exec_res_1_d (s : State) : Result := .next (resetBit .i1 .d s)
def exec_res_1_e (s : State) : Result := .next (resetBit .i1 .e s)
def exec_res_1_h (s : State) : Result := .next (resetBit .i1 .h s)
def exec_res_1_l (s : State) : Result := .next (resetBit .i1 .l s)
def exec_res_1_mhl (s : State) : Result := .next (resetBit .i1 .mhl s)
def exec_res_1_a (s : State) : Result := .next (resetBit .i1 .a s)
def exec_res_2_b (s : State) : Result := .next (resetBit .i2 .b s)
def exec_res_2_c (s : State) : Result := .next (resetBit .i2 .c s)
def exec_res_2_d (s : State) : Result := .next (resetBit .i2 .d s)
def exec_res_2_e (s : State) : Result := .next (resetBit .i2 .e s)
def exec_res_2_h (s : State) : Result := .next (resetBit .i2 .h s)
def exec_res_2_l (s : State) : Result := .next (resetBit .i2 .l s)
def exec_res_2_mhl (s : State) : Result := .next (resetBit .i2 .mhl s)
def exec_res_2_a (s : State) : Result := .next (resetBit .i2 .a s)
def exec_res_3_b (s : State) : Result := .next (resetBit .i3 .b s)
def exec_res_3_c (s : State) : Result := .next (resetBit .i3 .c s)
def exec_res_3_d (s : State) : Result := .next (resetBit .i3 .d s)
def exec_res_3_e (s : State) : Result := .next (resetBit .i3 .e s)
def exec_res_3_h (s : State) : Result := .next (resetBit .i3 .h s)
def exec_res_3_l (s : State) : Result := .next (resetBit .i3 .l s)
def exec_res_3_mhl (s : State) : Result := .next (resetBit .i3 .mhl s)
def exec_res_3_a (s : State) : Result := .next (resetBit .i3 .a s)
def exec_res_4_b (s : State) : Result := .next (resetBit .i4 .b s)
def exec_res_4_c (s : State) : Result := .next (resetBit .i4 .c s)
def exec_res_4_d (s : State) : Result := .next (resetBit .i4 .d s)
def exec_res_4_e (s : State) : Result := .next (resetBit .i4 .e s)
def exec_res_4_h (s : State) : Result := .next (resetBit .i4 .h s)
def exec_res_4_l (s : State) : Result := .next (resetBit .i4 .l s)
def exec_res_4_mhl (s : State) : Result := .next (resetBit .i4 .mhl s)
def exec_res_4_a (s : State) : Result := .next (resetBit .i4 .a s)
def exec_res_5_b (s : State) : Result := .next (resetBit .i5 .b s)
def exec_res_5_c (s : State) : Result := .next (resetBit .i5 .c s)
def exec_res_5_d (s : State) : Result := .next (resetBit .i5 .d s)
def exec_res_5_e (s : State) : Result := .next (resetBit .i5 .e s)
def exec_res_5_h (s : State) : Result := .next (resetBit .i5 .h s)
def exec_res_5_l (s : State) : Result := .next (resetBit .i5 .l s)
def exec_res_5_mhl (s : State) : Result := .next (resetBit .i5 .mhl s)
def exec_res_5_a (s : State) : Result := .next (resetBit .i5 .a s)
def exec_res_6_b (s : State) : Result := .next (resetBit .i6 .b s)
def exec_res_6_c (s : State) : Result := .next (resetBit .i6 .c s)
def exec_res_6_d (s : State) : Result := .next (resetBit .i6 .d s)
def exec_res_6_e (s : State) : Result := .next (resetBit .i6 .e s)
def exec_res_6_h (s : State) : Result := .next (resetBit .i6 .h s)
def exec_res_6_l (s : State) : Result := .next (resetBit .i6 .l s)
def exec_res_6_mhl (s : State) : Result := .next (resetBit .i6 .mhl s)
def exec_res_6_a (s : State) : Result := .next (resetBit .i6 .a s)
def exec_res_7_b (s : State) : Result := .next (resetBit .i7 .b s)
def exec_res_7_c (s : State) : Result := .next (resetBit .i7 .c s)
def exec_res_7_d (s : State) : Result := .next (resetBit .i7 .d s)
def exec_res_7_e (s : State) : Result := .next (resetBit .i7 .e s)
def exec_res_7_h (s : State) : Result := .next (resetBit .i7 .h s)
def exec_res_7_l (s : State) : Result := .next (resetBit .i7 .l s)
def exec_res_7_mhl (s : State) : Result := .next (resetBit .i7 .mhl s)
def exec_res_7_a (s : State) : Result := .next (resetBit .i7 .a s)

/-! ### SET b, x (R205) -/

def exec_set_0_b (s : State) : Result := .next (setBit .i0 .b s)
def exec_set_0_c (s : State) : Result := .next (setBit .i0 .c s)
def exec_set_0_d (s : State) : Result := .next (setBit .i0 .d s)
def exec_set_0_e (s : State) : Result := .next (setBit .i0 .e s)
def exec_set_0_h (s : State) : Result := .next (setBit .i0 .h s)
def exec_set_0_l (s : State) : Result := .next (setBit .i0 .l s)
def exec_set_0_mhl (s : State) : Result := .next (setBit .i0 .mhl s)
def exec_set_0_a (s : State) : Result := .next (setBit .i0 .a s)
def exec_set_1_b (s : State) : Result := .next (setBit .i1 .b s)
def exec_set_1_c (s : State) : Result := .next (setBit .i1 .c s)
def exec_set_1_d (s : State) : Result := .next (setBit .i1 .d s)
def exec_set_1_e (s : State) : Result := .next (setBit .i1 .e s)
def exec_set_1_h (s : State) : Result := .next (setBit .i1 .h s)
def exec_set_1_l (s : State) : Result := .next (setBit .i1 .l s)
def exec_set_1_mhl (s : State) : Result := .next (setBit .i1 .mhl s)
def exec_set_1_a (s : State) : Result := .next (setBit .i1 .a s)
def exec_set_2_b (s : State) : Result := .next (setBit .i2 .b s)
def exec_set_2_c (s : State) : Result := .next (setBit .i2 .c s)
def exec_set_2_d (s : State) : Result := .next (setBit .i2 .d s)
def exec_set_2_e (s : State) : Result := .next (setBit .i2 .e s)
def exec_set_2_h (s : State) : Result := .next (setBit .i2 .h s)
def exec_set_2_l (s : State) : Result := .next (setBit .i2 .l s)
def exec_set_2_mhl (s : State) : Result := .next (setBit .i2 .mhl s)
def exec_set_2_a (s : State) : Result := .next (setBit .i2 .a s)
def exec_set_3_b (s : State) : Result := .next (setBit .i3 .b s)
def exec_set_3_c (s : State) : Result := .next (setBit .i3 .c s)
def exec_set_3_d (s : State) : Result := .next (setBit .i3 .d s)
def exec_set_3_e (s : State) : Result := .next (setBit .i3 .e s)
def exec_set_3_h (s : State) : Result := .next (setBit .i3 .h s)
def exec_set_3_l (s : State) : Result := .next (setBit .i3 .l s)
def exec_set_3_mhl (s : State) : Result := .next (setBit .i3 .mhl s)
def exec_set_3_a (s : State) : Result := .next (setBit .i3 .a s)
def exec_set_4_b (s : State) : Result := .next (setBit .i4 .b s)
def exec_set_4_c (s : State) : Result := .next (setBit .i4 .c s)
def exec_set_4_d (s : State) : Result := .next (setBit .i4 .d s)
def exec_set_4_e (s : State) : Result := .next (setBit .i4 .e s)
def exec_set_4_h (s : State) : Result := .next (setBit .i4 .h s)
def exec_set_4_l (s : State) : Result := .next (setBit .i4 .l s)
def exec_set_4_mhl (s : State) : Result := .next (setBit .i4 .mhl s)
def exec_set_4_a (s : State) : Result := .next (setBit .i4 .a s)
def exec_set_5_b (s : State) : Result := .next (setBit .i5 .b s)
def exec_set_5_c (s : State) : Result := .next (setBit .i5 .c s)
def exec_set_5_d (s : State) : Result := .next (setBit .i5 .d s)
def exec_set_5_e (s : State) : Result := .next (setBit .i5 .e s)
def exec_set_5_h (s : State) : Result := .next (setBit .i5 .h s)
def exec_set_5_l (s : State) : Result := .next (setBit .i5 .l s)
def exec_set_5_mhl (s : State) : Result := .next (setBit .i5 .mhl s)
def exec_set_5_a (s : State) : Result := .next (setBit .i5 .a s)
def exec_set_6_b (s : State) : Result := .next (setBit .i6 .b s)
def exec_set_6_c (s : State) : Result := .next (setBit .i6 .c s)
def exec_set_6_d (s : State) : Result := .next (setBit .i6 .d s)
def exec_set_6_e (s : State) : Result := .next (setBit .i6 .e s)
def exec_set_6_h (s : State) : Result := .next (setBit .i6 .h s)
def exec_set_6_l (s : State) : Result := .next (setBit .i6 .l s)
def exec_set_6_mhl (s : State) : Result := .next (setBit .i6 .mhl s)
def exec_set_6_a (s : State) : Result := .next (setBit .i6 .a s)
def exec_set_7_b (s : State) : Result := .next (setBit .i7 .b s)
def exec_set_7_c (s : State) : Result := .next (setBit .i7 .c s)
def exec_set_7_d (s : State) : Result := .next (setBit .i7 .d s)
def exec_set_7_e (s : State) : Result := .next (setBit .i7 .e s)
def exec_set_7_h (s : State) : Result := .next (setBit .i7 .h s)
def exec_set_7_l (s : State) : Result := .next (setBit .i7 .l s)
def exec_set_7_mhl (s : State) : Result := .next (setBit .i7 .mhl s)
def exec_set_7_a (s : State) : Result := .next (setBit .i7 .a s)

/-! ### The escape byte (30_encoding.md R67) -/

def exec_escape_cb (op2 : Byte) (s : State) : Result := .next (runPrefixed op2 s)

end Sys2Proof.Machine
end

