-- ==== Sys2Proof/Machine/System.lean ====
section
/-! DEFINITION. The faulting opcodes (46_system.md; 60_exceptions.md R260): each raises `UnimplementedOpcode` with its opcode byte and the
address it was fetched from, and has no next state. -/

namespace Sys2Proof.Machine

/-! ### Shared operations -/

/-- `raise UnimplementedOpcode(op, false, at)` (R250 to R256). -/
def stopWith (k : Stop) (s : State) : Result := raiseUnimplementedOpcode k.opcode false s.opcodeAddress

/-! ### DAA, HALT, STOP, DI, EI, RETI (R250 to R255) -/

def exec_stop (s : State) : Result := stopWith .stop s
def exec_daa (s : State) : Result := stopWith .daa s
def exec_halt (s : State) : Result := stopWith .halt s
def exec_reti (s : State) : Result := stopWith .reti s
def exec_di (s : State) : Result := stopWith .di s
def exec_ei (s : State) : Result := stopWith .ei s

/-! ### The unassigned opcodes (R256) -/

def exec_illegal_d3 (s : State) : Result := stopWith .d3 s
def exec_illegal_db (s : State) : Result := stopWith .db s
def exec_illegal_dd (s : State) : Result := stopWith .dd s
def exec_illegal_e3 (s : State) : Result := stopWith .e3 s
def exec_illegal_e4 (s : State) : Result := stopWith .e4 s
def exec_illegal_eb (s : State) : Result := stopWith .eb s
def exec_illegal_ec (s : State) : Result := stopWith .ec s
def exec_illegal_ed (s : State) : Result := stopWith .ed s
def exec_illegal_f4 (s : State) : Result := stopWith .f4 s
def exec_illegal_fc (s : State) : Result := stopWith .fc s
def exec_illegal_fd (s : State) : Result := stopWith .fd s

end Sys2Proof.Machine
end

