-- ==== Sys2Proof/Machine/Step.lean ====
section
/-! DEFINITION. One step of the core (30_encoding.md R67; 70_reset_and_hazards.md R294). -/

namespace Sys2Proof.Machine

/-- One step: fetch the instruction's bytes, which moves PC past them, decode them, execute. -/
def step (s : State) : Host.Outcome State Fault Refusal :=
  match s.fetchDecode with
  | (.instr i _, s1) => exec i s1
  | (.reject _, _) => invalidDecode s

/-- `s` with the instruction of a table row stored at PC, where `step` fetches next. -/
def State.withFetchWord (s : State) (nbits w : Nat) : State := s.hostLoad s.pc (tableWordBytes nbits w)

end Sys2Proof.Machine
end

