-- ==== Sys2Proof/Safety.lean ====
section
/-! DEFINITION. Runs, how they end, and the tables of the spec that say what an instruction may write: the terms the claims
use. -/

namespace Sys2Proof.Machine

/-! ### Runs (70_reset_and_hazards.md R294, R295) -/

/-- `t` follows from `s` by zero or more steps of the core. -/
inductive Reaches : State → State → Prop
  | here (s : State) : Reaches s s
  | step {s t u : State} : Reaches s t → step t = .next u → Reaches s u

/-- How far a run has come: the host stopped it, the fault ended it, a refusal ended it, or it still runs after the steps given. -/
inductive RunEnd
  | stoppedByHost (s : State)
  | faulted (r : Fault)
  | refused (r : Refusal)
  | running (s : State)
  deriving DecidableEq, Repr

/-- A run of at most `n` steps under the host's criterion, evaluated only between steps (`STOP_CONDITION`, R295; log entry 10).
DESIGN CHOICE (log entry 19): the criterion is evaluated on the start state too, before the first step, so a run may end after zero
steps, and on the state after the last step; R295 says nothing of the start state. -/
def runUntil (stop : State → Bool) : Nat → State → RunEnd
  | 0, s => if stop s then .stoppedByHost s else .running s
  | n + 1, s =>
    if stop s then .stoppedByHost s
    else
      match step s with
      | .next t => runUntil stop n t
      | .fault r => .faulted r
      | .refused r => .refused r

/-- A run from `s` is safe: no step of it faults ("no fault raised", 60_exceptions.md R264). -/
def SafeFrom (s : State) : Prop := ∀ t, Reaches s t → ∃ u, step t = .next u

/-! ### Memory and operands in claims -/

/-- Memory in canonical form: the invariant every step keeps. -/
abbrev State.Canonical (s : State) : Prop := s.mem.wf = true

/-- Every byte of memory reads the same. -/
def SameMemory (s t : State) : Prop := ∀ addr : Word, t.memRead addr = s.memRead addr

/-- One byte is stored, and every other address reads as before. -/
def StoresByte (s t : State) (addr : Word) (v : Byte) : Prop :=
  t.memRead addr = v ∧ ∀ other : Word, other ≠ addr → t.memRead other = s.memRead other

/-- Two bytes are stored, the low one at `addr` and the high one at the next address modulo 65536, and every other address
reads as before. -/
def StoresWord (s t : State) (addr : Word) (v : Word) : Prop :=
  t.memRead addr = loByte v ∧ t.memRead (addr + 1#16) = hiByte v ∧
    ∀ other : Word, other ≠ addr → other ≠ addr + 1#16 → t.memRead other = s.memRead other

/-- `i` completes from `s`, and wherever one of the bytes `stored` (address and byte) lies among the bytes of the instruction
after it, the fetch of that instruction reads the stored byte (20_memory.md R52). -/
def StoreSeenByNextFetch (i : Instr) (s : State) (stored : List (Word × Byte)) : Prop :=
  ∃ t, exec i s = .next t ∧
    ∀ x ∈ stored, ∀ k : Nat, k < t.fetchInstrBytes.1.length → t.pc + BitVec.ofNat 16 k = x.1 →
      t.fetchInstrBytes.1[k]? = some x.2

/-- Every general register but those listed holds what it held. -/
def KeepsRegistersBut (s t : State) (changed : List R8) : Prop :=
  ∀ r : R8, r ≠ .mhl → r ∉ changed → t.readR8 r = s.readR8 r

/-- The operand `R8[i]` receives `v` and nothing else changes but, where the claim says so, flags: for a register no byte of
memory and no other register; for (HL) only the byte at HL, and no register. SP and PC stay. -/
def WritesOperand (s t : State) (x : R8) (v : Byte) : Prop :=
  t.sp = s.sp ∧ t.pc = s.pc ∧ KeepsRegistersBut s t [x] ∧
    if x = .mhl then StoresByte s t s.hl v else t.readR8 x = v ∧ SameMemory s t

/-- The pair `R16[p]` receives `v`: the other pairs, A, the flags, PC and every byte of memory stay. -/
def WritesPair (s t : State) (p : R16) (v : Word) : Prop :=
  t.readR16 p = v ∧ (∀ q : R16, q ≠ p → t.readR16 q = s.readR16 q) ∧ t.a = s.a ∧ t.pc = s.pc ∧ SameMemory s t

/-- The second operand of an ALU operation: `R8[z]` or n8 (42_alu8.md R167). -/
inductive AluArg
  | r8 (x : R8)
  | n8 (n : Byte)
  deriving DecidableEq, Repr

/-- The ALU instruction with a second operand. -/
def aluInstrOf (op : AluOp) : AluArg → Instr
  | .r8 x => (Form.alu op x).instr
  | .n8 n => (Form.aluImm op n).instr

/-- The value of the second operand: a register, the byte at HL, or the immediate. -/
def AluArg.value (s : State) : AluArg → Byte
  | .r8 x => s.readR8 x
  | .n8 n => n

/-- The bytes of the ALU forms: opcode `0x80 + 8*y + z`, or `0xC6 + 8*y` then n8 (42_alu8.md R167). -/
def aluBytes (op : AluOp) : AluArg → List Byte
  | .r8 x => [BitVec.ofNat 8 (0x80 + 8 * op.field + x.field)]
  | .n8 n => [BitVec.ofNat 8 (0xC6 + 8 * op.field), n]

/-! ### Which flags a family writes (10_state.md R15) -/

/-- Which of Z, N, H, C an instruction writes. -/
def flagsWritten : Form → Flags
  | .alu _ _ | .aluImm _ _ => { z := true, n := true, h := true, c := true }
  | .inc _ | .dec _ => { z := true, n := true, h := true, c := false }
  | .cpl => { z := false, n := true, h := true, c := false }
  | .scf | .ccf => { z := false, n := true, h := true, c := true }
  | .addHl _ => { z := false, n := true, h := true, c := true }
  | .addSp _ | .ldHlSpE _ => { z := true, n := true, h := true, c := true }
  | .accRot _ | .rot _ _ => { z := true, n := true, h := true, c := true }
  | .bit _ _ => { z := true, n := true, h := true, c := false }
  | .pop p => { z := p = .af, n := p = .af, h := p = .af, c := p = .af }
  | .nop | .ld _ _ | .ldImm _ _ | .ldIndA _ | .ldAInd _ | .ldAAbs _ | .ldAbsA _ | .ldhAC | .ldhCA | .ldhAImm _ | .ldhImmA _
  | .ldPair _ _ | .ldAbsSp _ | .ldSpHl | .push _ | .incPair _ | .decPair _ | .res _ _ | .set _ _
  | .jp _ | .jpCond _ _ | .jpHl | .jr _ | .jrCond _ _ | .call _ | .callCond _ _ | .ret | .retCond _ | .rst _
  | .stops _ | .escape _ => { z := false, n := false, h := false, c := false }

/-- The families that write SP (10_state.md R18): LD SP,n16; INC SP; DEC SP; LD SP,HL; ADD SP,e8; every push and pop. -/
def writesSp : Form → Bool
  | .ldPair p _ | .incPair p | .decPair p => p = .sp
  | .ldSpHl | .addSp _ => true
  | .push _ | .pop _ | .call _ | .callCond _ _ | .rst _ | .ret | .retCond _ => true
  | .nop | .ld _ _ | .ldImm _ _ | .ldIndA _ | .ldAInd _ | .ldAAbs _ | .ldAbsA _ | .ldhAC | .ldhCA | .ldhAImm _ | .ldhImmA _
  | .ldAbsSp _ | .ldHlSpE _ | .alu _ _ | .aluImm _ _ | .inc _ | .dec _ | .cpl | .scf | .ccf | .addHl _
  | .accRot _ | .rot _ _ | .bit _ _ | .res _ _ | .set _ _
  | .jp _ | .jpCond _ _ | .jpHl | .jr _ | .jrCond _ _ | .stops _ | .escape _ => false

/-- Whether a register is a half of a pair. -/
def pairHas (r : R8) : R16 → Bool
  | .bc => r = .b || r = .c
  | .de => r = .d || r = .e
  | .hl => r = .h || r = .l
  | .sp => false

/-- Whether a general register is a half of a pair of the stack instructions; F is not one of them. -/
def stackPairHas (r : R8) : R16Stk → Bool
  | .bc => r = .b || r = .c
  | .de => r = .d || r = .e
  | .hl => r = .h || r = .l
  | .af => r = .a

/-- Whether the access of an address operand moves a register: HL, for (HL+) and (HL-). -/
def addressMoves (r : R8) : R16Mem → Bool
  | .bc | .de => false
  | .hlInc | .hlDec => r = .h || r = .l

/-- Which general register a family may write (10_state.md R22). -/
def writesRegister (r : R8) : Form → Bool
  | .ld dst _ | .ldImm dst _ => dst = r
  | .ldIndA m => addressMoves r m
  | .ldAInd m => r = .a || addressMoves r m
  | .ldAAbs _ | .ldhAC | .ldhAImm _ | .cpl | .accRot _ => r = .a
  | .alu op _ | .aluImm op _ => r = .a && op != .cp
  | .ldPair p _ | .incPair p | .decPair p => pairHas r p
  | .pop p => stackPairHas r p
  | .ldHlSpE _ | .addHl _ => r = .h || r = .l
  | .inc x | .dec x | .rot _ x | .res _ x | .set _ x => x = r
  | .nop | .ldAbsA _ | .ldhCA | .ldhImmA _ | .ldAbsSp _ | .ldSpHl | .push _ | .scf | .ccf | .addSp _ | .bit _ _
  | .jp _ | .jpCond _ _ | .jpHl | .jr _ | .jrCond _ _ | .call _ | .callCond _ _ | .ret | .retCond _ | .rst _
  | .stops _ | .escape _ => false

/-- The families that write PC beyond the fetch (10_state.md R22): JP, JP HL, JR, CALL, RET, RST. -/
def writesPc : Form → Bool
  | .jp _ | .jpCond _ _ | .jpHl | .jr _ | .jrCond _ _ | .call _ | .callCond _ _ | .ret | .retCond _ | .rst _ => true
  | .nop | .ld _ _ | .ldImm _ _ | .ldIndA _ | .ldAInd _ | .ldAAbs _ | .ldAbsA _ | .ldhAC | .ldhCA | .ldhAImm _ | .ldhImmA _
  | .ldPair _ _ | .ldAbsSp _ | .ldSpHl | .ldHlSpE _ | .push _ | .pop _ | .alu _ _ | .aluImm _ _ | .inc _ | .dec _
  | .cpl | .scf | .ccf | .addHl _ | .incPair _ | .decPair _ | .addSp _
  | .accRot _ | .rot _ _ | .bit _ _ | .res _ _ | .set _ _ | .stops _ | .escape _ => false

/-- The families that make a memory write (20_memory.md R53). -/
def writesMemory : Form → Bool
  | .ld dst _ | .ldImm dst _ => dst = .mhl
  | .ldIndA _ | .ldAbsA _ | .ldhCA | .ldhImmA _ | .ldAbsSp _ => true
  | .inc x | .dec x | .rot _ x | .res _ x | .set _ x => x = .mhl
  | .push _ | .call _ | .callCond _ _ | .rst _ => true
  | .nop | .ldAInd _ | .ldAAbs _ | .ldhAC | .ldhAImm _ | .ldPair _ _ | .ldSpHl | .ldHlSpE _ | .pop _ | .alu _ _ | .aluImm _ _
  | .cpl | .scf | .ccf | .addHl _ | .incPair _ | .decPair _ | .addSp _ | .accRot _ | .bit _ _
  | .jp _ | .jpCond _ _ | .jpHl | .jr _ | .jrCond _ _ | .ret | .retCond _ | .stops _ | .escape _ => false

end Sys2Proof.Machine
end

