-- ==== Sys2Proof/Certificates/Slice0/Obligations.lean ====
section
/-! DEFINITION. The statements for the provers. A statement about `exec` is about a state whose PC is already past the
instruction's bytes (10_state.md R16); `StepRunsDecodedInstruction` carries it to a step. `(Form.ld dst src).instr` is the
opcode-table row of that family and those operands; the clause on `encode` says which opcode that is. -/

open Sys2Proof Sys2Proof.Machine

/-! ### Encoding -/

/-- Every instruction is read back from its own bytes, whatever follows them (30_encoding.md R67 to R69, R72). -/
def Obligations.DecodeAfterEncode : Prop :=
  ∀ (i : Instr) (rest : List Byte), WellFormed i → decode (encode i ++ rest) = .instr i rest

/-- Whatever the decoder reads is exactly the encoding of what it answers: every byte string has one meaning, and no bit of it
is ignored (30_encoding.md R67, R72). -/
def Obligations.EncodeAfterDecode : Prop :=
  ∀ (bytes rest : List Byte) (i : Instr), decode bytes = .instr i rest → WellFormed i ∧ bytes = encode i ++ rest

/-- The length is 1, 2 or 3, for the escape byte 2, and depends on the first byte alone; with that many bytes the decoder reads an
instruction and leaves the rest untouched; the fetch and decode of a step move PC by exactly that length and change nothing else
(30_encoding.md R60). That with fewer bytes the decoder says by name that the instruction is cut short is the model's choice (log
entry 13): R60 says nothing of a rejection. -/
def Obligations.LengthFixedByFirstByte : Prop :=
  (∀ (op : Byte) (rest : List Byte),
    (1 ≤ instrLength op ∧ instrLength op ≤ 3 ∧ (op = 0xCB#8 → instrLength op = 2)) ∧
    (instrLength op ≤ rest.length + 1 → ∃ i, decode (op :: rest) = .instr i (rest.drop (instrLength op - 1))) ∧
    (rest.length + 1 < instrLength op → decode (op :: rest) = .reject (.truncated op))) ∧
  ∀ s : State, s.fetchDecode.2 = { s with pc := s.pc + BitVec.ofNat 16 (instrLength (s.memRead s.pc)) }

/-- Words written out bit by bit from the spec's encodings decode to their instructions, one family each (30_encoding.md R61, R68,
R69; the encoding lines of 40 to 46). -/
def Obligations.DecodesSpecWords : Prop :=
  decode [0b01000001#8] = .instr .ld_b_c [] ∧
  decode [0b00111110#8, 0x99#8] = .instr (.ld_a_n8 0x99#8) [] ∧
  decode [0b00100001#8, 0xCD#8, 0xAB#8] = .instr (.ld_hl_n16 0xABCD#16) [] ∧
  decode [0b10001011#8] = .instr .adc_a_e [] ∧
  decode [0b00111001#8] = .instr .add_hl_sp [] ∧
  decode [0b11110101#8] = .instr .push_af [] ∧
  decode [0b00110000#8, 0x10#8] = .instr (.jr_nc_e8 0x10#8) [] ∧
  decode [0b11001100#8, 0x00#8, 0x30#8] = .instr (.call_z_n16 0x3000#16) [] ∧
  decode [0b11101111#8] = .instr .rst_28 [] ∧
  decode [0b11001011#8, 0b01111100#8] = .instr .bit_7_h [] ∧
  decode [0b11001011#8, 0b11001011#8] = .instr .set_1_e [] ∧
  decode [0b01110110#8] = .instr .halt []

/-! ### The step -/

/-- Where the bytes of a well-formed instruction stand at PC (addresses modulo 65536), a step is that instruction executed with
PC past its bytes (30_encoding.md R67; 10_state.md R16, R17). -/
def Obligations.StepRunsDecodedInstruction : Prop :=
  ∀ (s : State) (i : Instr), WellFormed i →
    (∀ (k : Nat) (h : k < (encode i).length), s.memRead (s.pc + BitVec.ofNat 16 k) = (encode i)[k]) →
    step s = exec i { s with pc := s.pc + BitVec.ofNat 16 (encode i).length }

/-- A step at one of the seventeen faulting opcodes raises the fault with the opcode byte and its address, having read that one
byte only; at every other byte it has a next state (60_exceptions.md R260 to R262). -/
def Obligations.StepFaultsExactlyAtUnimplementedOpcodes : Prop :=
  ∀ s : State,
    let op := s.memRead s.pc
    if op ∈ [0x10#8, 0x27#8, 0x76#8, 0xD9#8, 0xF3#8, 0xFB#8, 0xD3#8, 0xDB#8, 0xDD#8, 0xE3#8, 0xE4#8, 0xEB#8, 0xEC#8, 0xED#8,
        0xF4#8, 0xFC#8, 0xFD#8] then
      step s = .fault (.unimplementedOpcode op false s.pc) ∧ stepAccesses s = [.fetch s.pc op]
    else ∃ t, step s = .next t

/-- Every instruction but the seventeen faulting ones completes, in every state (00_scope.md R9; 60_exceptions.md R260). -/
def Obligations.EveryOtherInstructionCompletes : Prop :=
  ∀ (i : Instr) (s : State), (∀ k : Stop, i ≠ (Form.stops k).instr) → ∃ t, exec i s = .next t

/-- The seventeen faulting opcodes, one byte each, raise `UnimplementedOpcode` with their opcode byte, not prefixed, at the address
they were fetched from, always (46_system.md R250 to R256). -/
def Obligations.FaultingOpcodesRaise : Prop :=
  ∀ s : State,
    ∀ x ∈ [(Instr.daa, 0x27#8), (.halt, 0x76#8), (.stop, 0x10#8), (.di, 0xF3#8), (.ei, 0xFB#8), (.reti, 0xD9#8),
        (.illegal_d3, 0xD3#8), (.illegal_db, 0xDB#8), (.illegal_dd, 0xDD#8), (.illegal_e3, 0xE3#8), (.illegal_e4, 0xE4#8),
        (.illegal_eb, 0xEB#8), (.illegal_ec, 0xEC#8), (.illegal_ed, 0xED#8), (.illegal_f4, 0xF4#8), (.illegal_fc, 0xFC#8),
        (.illegal_fd, 0xFD#8)],
      encode x.1 = [x.2] ∧ exec x.1 s = .fault (.unimplementedOpcode x.2 false (s.pc - 1#16))

/-! ### Reset and memory -/

/-- After reset and the load of an image the registers hold what the host supplied, F bits 3..0 are 0, the image stands at its
addresses (modulo 65536) and every other byte is 0x00 (10_state.md R23; 70_reset_and_hazards.md R290). -/
def Obligations.LaunchLeavesHostValues : Prop :=
  ∀ (r : ResetValues) (base : Word) (image : List Byte), image.length ≤ 65536 →
    let s := State.launch r base image
    (s.a = r.a ∧ s.b = r.b ∧ s.c = r.c ∧ s.d = r.d ∧ s.e = r.e ∧ s.h = r.h ∧ s.l = r.l ∧ s.flags = r.flags ∧
      s.sp = r.sp ∧ s.pc = r.pc ∧ s.f &&& 0x0F#8 = 0#8) ∧
    (∀ (k : Nat) (h : k < image.length), s.memRead (base + BitVec.ofNat 16 k) = image[k]) ∧
    ∀ addr : Word, (∀ k : Nat, k < image.length → addr ≠ base + BitVec.ofNat 16 k) → s.memRead addr = 0x00#8

/-- The model's memory form (log entry 17) holds after reset and after any load. -/
def Obligations.LaunchMemoryCanonical : Prop :=
  State.reset.Canonical ∧ ∀ (r : ResetValues) (base : Word) (image : List Byte), (State.launch r base image).Canonical

/-- The model's memory form (log entry 17) is kept by every step. -/
def Obligations.StepKeepsMemoryCanonical : Prop :=
  ∀ s t : State, s.Canonical → step s = .next t → t.Canonical

/-- Two memories in the model's form (log entry 17) that read the same at every address are the same data. -/
def Obligations.CanonicalMemoryIsExtensional : Prop :=
  ∀ s t : State, s.Canonical → t.Canonical → SameMemory s t → t.mem = s.mem

/-- A read returns the latest byte written to its address, a write changes no other address and no register (20_memory.md R43, R50). -/
def Obligations.ReadReturnsLatestWrite : Prop :=
  ∀ (s : State) (addr other : Word) (v : Byte),
    (s.memWrite addr v).memRead other = (if other = addr then v else s.memRead other) ∧
    s.memWrite addr v = { s with mem := (s.memWrite addr v).mem }

/-- A core that runs in unloaded memory executes NOPs: `n` steps move PC by `n`, modulo 65536, and change nothing else
(20_memory.md R55; 45_control.md R220). -/
def Obligations.UnloadedMemoryRunsNops : Prop :=
  ∀ (n : Nat) (s : State), s.mem = [] → Sys2Proof.core.run n s = .next { s with pc := s.pc + BitVec.ofNat 16 n }

/-- A store into the next instruction is what its fetch reads (20_memory.md R52): every storing form of 20_memory.md R53, each with the
bytes it stores and where, whichever bytes of the next instruction they are. -/
def Obligations.StoreIsSeenByTheNextFetch : Prop :=
  ∀ (s : State) (x : R8) (k : RotOp) (b v : Idx) (p : R16Stk) (cc : Cond) (n : Byte) (n16 : Word),
    let m := s.memRead s.hl
    let io (offset : Byte) : Word := BitVec.ofNat 16 (0xFF00 + offset.toNat)
    let lo (w : Word) : Byte := BitVec.ofNat 8 w.toNat
    let hi (w : Word) : Byte := BitVec.ofNat 8 (w.toNat / 256)
    let pushed (w : Word) : List (Word × Byte) := [(s.sp - 1#16, hi w), (s.sp - 2#16, lo w)]
    (∀ r ∈ [(Instr.ld_mhl_n8 n, s.hl, n), (.ld_mbc_a, s.bc, s.a), (.ld_mde_a, s.de, s.a), (.ld_mhlInc_a, s.hl, s.a),
        (.ld_mhlDec_a, s.hl, s.a), (.ld_mn16_a n16, n16, s.a), (.ldh_mn8_a n, io n, s.a), (.ldh_mc_a, io s.c, s.a),
        (.inc_mhl, s.hl, BitVec.ofNat 8 (m.toNat + 1)), (.dec_mhl, s.hl, BitVec.ofNat 8 (m.toNat + 255)),
        ((Form.rot k .mhl).instr, s.hl, (rot8 k m s.flags.c).1),
        ((Form.res b .mhl).instr, s.hl, m &&& ~~~(1#8 <<< b.field)),
        ((Form.set b .mhl).instr, s.hl, m ||| (1#8 <<< b.field))],
      StoreSeenByNextFetch r.1 s [r.2]) ∧
    (x ≠ .mhl → StoreSeenByNextFetch (Form.ld .mhl x).instr s [(s.hl, s.readR8 x)]) ∧
    StoreSeenByNextFetch (.ld_mn16_sp n16) s [(n16, lo s.sp), (n16 + 1#16, hi s.sp)] ∧
    StoreSeenByNextFetch (Form.push p).instr s (pushed (s.readR16Stk p)) ∧
    StoreSeenByNextFetch (.call_n16 n16) s (pushed s.pc) ∧
    (s.flags.holds cc = true → StoreSeenByNextFetch (Form.callCond cc n16).instr s (pushed s.pc)) ∧
    StoreSeenByNextFetch (Form.rst v).instr s (pushed s.pc)

/-! ### Whole-machine rules -/

/-- An instruction that is no control transfer leaves PC past its bytes, modulo 65536 (10_state.md R16, R17). -/
def Obligations.PcAdvancesByLength : Prop :=
  ∀ (s t s1 : State) (i : Instr) (rest : List Byte),
    s.fetchDecode = (.instr i rest, s1) → writesPc i.form = false → step s = .next t →
    t.pc = s.pc + BitVec.ofNat 16 (instrLength (s.memRead s.pc))

/-- The memory after a step is what its listed writes, done in order, make of the memory before it (20_memory.md R53). -/
def Obligations.StepMemoryIsReplayOfAccesses : Prop :=
  ∀ s t : State, step s = .next t → t.mem = (replayWrites (stepAccesses s) s).mem

/-- Every fetch and every data read of a step sees memory as it was before the step, and the step reads no other byte: on any
memory that holds the same bytes at the listed addresses it makes the same accesses and ends alike, the same registers, flags, SP
and PC with the listed writes done on that memory, or the same fault (20_memory.md R52, R53, R57). -/
def Obligations.AccessesSeeMemoryBeforeTheStep : Prop :=
  (∀ (s : State) (addr : Word) (v : Byte),
    .fetch addr v ∈ stepAccesses s ∨ .read addr v ∈ stepAccesses s → v = s.memRead addr) ∧
  ∀ (s : State) (m : Memory),
    let s' : State := { s with mem := m }
    (∀ (addr : Word) (v : Byte),
      .fetch addr v ∈ stepAccesses s ∨ .read addr v ∈ stepAccesses s → s'.memRead addr = s.memRead addr) →
    stepAccesses s' = stepAccesses s ∧
    (∀ t, step s = .next t → step s' = .next { t with mem := (replayWrites (stepAccesses s) s').mem }) ∧
    ∀ r, step s = .fault r → step s' = .fault r

/-- The accesses of a step: the fetches of its bytes at increasing addresses, then the data accesses of its instruction, which are
those of the table of 20_memory.md R53, row by row, with their addresses and bytes; every instruction not in an earlier row makes
none. Some of the orders are the spec's own decision (92_eei_decisions.md D23; log entry 12). -/
def Obligations.DataAccessesAreTheTable : Prop :=
  ∀ (s : State) (x y : R8) (op : AluOp) (k : RotOp) (q : AccRot) (b v : Idx) (p : R16Stk) (rr : R16) (cc : Cond) (st : Stop)
    (n : Byte) (n16 : Word),
    let m := s.memRead s.hl
    let io (offset : Byte) : Word := BitVec.ofNat 16 (0xFF00 + offset.toNat)
    let lo (w : Word) : Byte := BitVec.ofNat 8 w.toNat
    let hi (w : Word) : Byte := BitVec.ofNat 8 (w.toNat / 256)
    let rd (addr : Word) : Access := .read addr (s.memRead addr)
    let pushes (w : Word) : List Access := [.write (s.sp - 1#16) (hi w), .write (s.sp - 2#16) (lo w)]
    let pops : List Access := [rd s.sp, rd (s.sp + 1#16)]
    (∀ i rest s1, s.fetchDecode = (.instr i rest, s1) →
      stepAccesses s =
        (List.range (instrLength (s.memRead s.pc))).map
            (fun j => .fetch (s.pc + BitVec.ofNat 16 j) (s.memRead (s.pc + BitVec.ofNat 16 j))) ++
          dataAccesses i s1) ∧
    -- one read
    (x ≠ .mhl → dataAccesses (Form.ld x .mhl).instr s = [rd s.hl]) ∧
    (∀ r ∈ [(Instr.ld_a_mbc, s.bc), (.ld_a_mde, s.de), (.ld_a_mn16 n16, n16), (.ldh_a_mn8 n, io n), (.ldh_a_mc, io s.c),
        (.ld_a_mhlInc, s.hl), (.ld_a_mhlDec, s.hl), ((Form.alu op .mhl).instr, s.hl), ((Form.bit b .mhl).instr, s.hl)],
      dataAccesses r.1 s = [rd r.2]) ∧
    -- one write
    (x ≠ .mhl → dataAccesses (Form.ld .mhl x).instr s = [.write s.hl (s.readR8 x)]) ∧
    (∀ r ∈ [(Instr.ld_mhl_n8 n, s.hl, n), (.ld_mbc_a, s.bc, s.a), (.ld_mde_a, s.de, s.a), (.ld_mn16_a n16, n16, s.a),
        (.ldh_mn8_a n, io n, s.a), (.ldh_mc_a, io s.c, s.a), (.ld_mhlInc_a, s.hl, s.a), (.ld_mhlDec_a, s.hl, s.a)],
      dataAccesses r.1 s = [.write r.2.1 r.2.2]) ∧
    -- read HL, then write HL
    (∀ r ∈ [(Instr.inc_mhl, BitVec.ofNat 8 (m.toNat + 1)), (.dec_mhl, BitVec.ofNat 8 (m.toNat + 255)),
        ((Form.rot k .mhl).instr, (rot8 k m s.flags.c).1), ((Form.res b .mhl).instr, m &&& ~~~(1#8 <<< b.field)),
        ((Form.set b .mhl).instr, m ||| (1#8 <<< b.field))],
      dataAccesses r.1 s = [rd s.hl, .write s.hl r.2]) ∧
    -- two writes
    dataAccesses (.ld_mn16_sp n16) s = [.write n16 (lo s.sp), .write (n16 + 1#16) (hi s.sp)] ∧
    dataAccesses (Form.push p).instr s = pushes (s.readR16Stk p) ∧
    dataAccesses (.call_n16 n16) s = pushes s.pc ∧
    (s.flags.holds cc = true → dataAccesses (Form.callCond cc n16).instr s = pushes s.pc) ∧
    dataAccesses (Form.rst v).instr s = pushes s.pc ∧
    -- two reads
    dataAccesses (Form.pop p).instr s = pops ∧
    dataAccesses .ret s = pops ∧
    (s.flags.holds cc = true → dataAccesses (Form.retCond cc).instr s = pops) ∧
    -- none
    (s.flags.holds cc = false →
      dataAccesses (Form.callCond cc n16).instr s = [] ∧ dataAccesses (Form.retCond cc).instr s = []) ∧
    (x ≠ .mhl → y ≠ .mhl →
      ∀ f ∈ [Form.ld x y, .ldImm x n, .alu op x, .inc x, .dec x, .rot k x, .bit b x, .res b x, .set b x],
        dataAccesses f.instr s = []) ∧
    ∀ f ∈ [Form.nop, .ldPair rr n16, .ldSpHl, .ldHlSpE n, .aluImm op n, .cpl, .scf, .ccf, .addHl rr, .incPair rr, .decPair rr,
        .addSp n, .accRot q, .jp n16, .jpCond cc n16, .jpHl, .jr n, .jrCond cc n, .stops st],
      dataAccesses f.instr s = []

/-- A step first fetches its bytes at increasing addresses modulo 65536, then reads data (at most two bytes), then writes (at
most two bytes) (20_memory.md R53). -/
def Obligations.FetchesThenReadsThenWrites : Prop :=
  ∀ s : State, ∃ reads writes : List (Word × Byte),
    stepAccesses s =
      (List.range (instrLength (s.memRead s.pc))).map
          (fun k => .fetch (s.pc + BitVec.ofNat 16 k) (s.memRead (s.pc + BitVec.ofNat 16 k))) ++
        reads.map (fun x => .read x.1 x.2) ++ writes.map (fun x => .write x.1 x.2) ∧
    reads.length ≤ 2 ∧ writes.length ≤ 2

/-- No instruction changes a flag that 10_state.md R15 calls unaffected for its family. -/
def Obligations.UnaffectedFlagsAreKept : Prop :=
  ∀ (i : Instr) (s t : State), WellFormed i → exec i s = .next t →
    ((flagsWritten i.form).z = false → t.flags.z = s.flags.z) ∧
    ((flagsWritten i.form).n = false → t.flags.n = s.flags.n) ∧
    ((flagsWritten i.form).h = false → t.flags.h = s.flags.h) ∧
    ((flagsWritten i.form).c = false → t.flags.c = s.flags.c)

/-- No instruction changes a register, SP, PC or a byte of memory that 10_state.md R18, R22 and 20_memory.md R53 do not let its family
write. -/
def Obligations.OnlyNamedStateIsWritten : Prop :=
  ∀ (i : Instr) (s t : State), WellFormed i → exec i s = .next t →
    (∀ r : R8, r ≠ .mhl → writesRegister r i.form = false → t.readR8 r = s.readR8 r) ∧
    (writesSp i.form = false → t.sp = s.sp) ∧
    (writesPc i.form = false → t.pc = s.pc) ∧
    (writesMemory i.form = false → SameMemory s t)

/-- A run ends only because the host stops it, by its criterion, or by the fault; never by a refusal (70_reset_and_hazards.md R295).
That the criterion is evaluated on the start state too, so that a run may end after zero steps, is the model's choice (log entry
19). -/
def Obligations.RunEndsByHostOrFault : Prop :=
  ∀ (stop : State → Bool) (n : Nat) (s : State),
    (∃ t, runUntil stop n s = .stoppedByHost t ∧ stop t = true ∧ Reaches s t) ∨
    (∃ r, runUntil stop n s = .faulted r ∧ ∃ t, Reaches s t ∧ stop t = false ∧ step t = .fault r) ∨
    ∃ t, runUntil stop n s = .running t ∧ stop t = false ∧ Reaches s t

/-! ### Register views -/

/-- A pair view is its two registers, high register in the high byte, for reading and writing (10_state.md R12). -/
def Obligations.PairViewsAreTheirRegisters : Prop :=
  ∀ (s : State) (v : Word),
    (s.bc.toNat = s.b.toNat * 256 + s.c.toNat ∧ s.de.toNat = s.d.toNat * 256 + s.e.toNat ∧
      s.hl.toNat = s.h.toNat * 256 + s.l.toNat) ∧
    (s.setBc v = { s with b := BitVec.ofNat 8 (v.toNat / 256), c := BitVec.ofNat 8 v.toNat } ∧
      s.setDe v = { s with d := BitVec.ofNat 8 (v.toNat / 256), e := BitVec.ofNat 8 v.toNat } ∧
      s.setHl v = { s with h := BitVec.ofNat 8 (v.toNat / 256), l := BitVec.ofNat 8 v.toNat }) ∧
    (s.setBc v).bc = v ∧ (s.setDe v).de = v ∧ (s.setHl v).hl = v

/-- F as a byte has Z, N, H, C at bits 7, 6, 5, 4 and zeros below; writing a byte keeps those four bits; AF is A and F
(10_state.md R13, R14). -/
def Obligations.FlagByteView : Prop :=
  (∀ f : Flags, f.toByte.toNat = 128 * f.z.toNat + 64 * f.n.toNat + 32 * f.h.toNat + 16 * f.c.toNat) ∧
  (∀ v : Byte, (Flags.ofByte v).toByte = v &&& 0xF0#8) ∧
  ∀ (s : State) (v : Word),
    s.af.toNat = s.a.toNat * 256 + s.f.toNat ∧ (s.setAf v).af = v &&& 0xFFF0#16 ∧
    s.setAf v = { s with a := (s.setAf v).a, flags := (s.setAf v).flags }

/-! ### 8-bit loads -/

/-- LD r,r', LD r,(HL) and LD (HL),r: the destination operand receives the source operand, both read before the write; no flag
(40_loads8.md R100, R102, R103, R119). The slot with both operands (HL) is HALT. -/
def Obligations.LoadCopiesOperand : Prop :=
  ∀ (dst src : R8) (s : State), ¬(dst = .mhl ∧ src = .mhl) →
    encode (Form.ld dst src).instr = [BitVec.ofNat 8 (0x40 + 8 * dst.field + src.field)] ∧
    ∃ t, exec (Form.ld dst src).instr s = .next t ∧ WritesOperand s t dst (s.readR8 src) ∧ t.flags = s.flags

/-- LD r,n8 and LD (HL),n8 (40_loads8.md R101, R104, R119). -/
def Obligations.LoadImmediateByte : Prop :=
  ∀ (dst : R8) (n : Byte) (s : State),
    encode (Form.ldImm dst n).instr = [BitVec.ofNat 8 (0x06 + 8 * dst.field), n] ∧
    ∃ t, exec (Form.ldImm dst n).instr s = .next t ∧ WritesOperand s t dst n ∧ t.flags = s.flags

/-- LD A,(BC), LD A,(DE), LD A,(HL+), LD A,(HL-): A receives the byte at the address, HL steps modulo 65536 (40_loads8.md R105, R106,
R116, R118). -/
def Obligations.LoadAFromPairAddress : Prop :=
  ∀ s : State,
    encode .ld_a_mbc = [0x0A#8] ∧ encode .ld_a_mde = [0x1A#8] ∧ encode .ld_a_mhlInc = [0x2A#8] ∧
    encode .ld_a_mhlDec = [0x3A#8] ∧
    exec .ld_a_mbc s = .next { s with a := s.memRead s.bc } ∧
    exec .ld_a_mde s = .next { s with a := s.memRead s.de } ∧
    (∃ t, exec .ld_a_mhlInc s = .next t ∧ t.a = s.memRead s.hl ∧ t.hl = s.hl + 1#16 ∧
      t = { s with a := t.a, h := t.h, l := t.l }) ∧
    ∃ t, exec .ld_a_mhlDec s = .next t ∧ t.a = s.memRead s.hl ∧ t.hl = s.hl - 1#16 ∧
      t = { s with a := t.a, h := t.h, l := t.l }

/-- LD (BC),A, LD (DE),A, LD (HL+),A, LD (HL-),A: A is stored at the address, HL steps modulo 65536 (40_loads8.md R107, R108, R115,
R117). -/
def Obligations.StoreAAtPairAddress : Prop :=
  ∀ s : State,
    encode .ld_mbc_a = [0x02#8] ∧ encode .ld_mde_a = [0x12#8] ∧ encode .ld_mhlInc_a = [0x22#8] ∧
    encode .ld_mhlDec_a = [0x32#8] ∧
    (∃ t, exec .ld_mbc_a s = .next t ∧ StoresByte s t s.bc s.a ∧ t = { s with mem := t.mem }) ∧
    (∃ t, exec .ld_mde_a s = .next t ∧ StoresByte s t s.de s.a ∧ t = { s with mem := t.mem }) ∧
    (∃ t, exec .ld_mhlInc_a s = .next t ∧ StoresByte s t s.hl s.a ∧ t.hl = s.hl + 1#16 ∧
      t = { s with h := t.h, l := t.l, mem := t.mem }) ∧
    ∃ t, exec .ld_mhlDec_a s = .next t ∧ StoresByte s t s.hl s.a ∧ t.hl = s.hl - 1#16 ∧
      t = { s with h := t.h, l := t.l, mem := t.mem }

/-- LD A,(n16), LDH A,(n8), LDH A,(C): A receives the byte at n16, or at 0xFF00 plus an unsigned offset (40_loads8.md R109, R111,
R113). -/
def Obligations.LoadAFromAbsoluteOrIoPage : Prop :=
  ∀ (s : State) (n8 : Byte) (n16 : Word),
    encode (.ld_a_mn16 n16) = [0xFA#8, BitVec.ofNat 8 n16.toNat, BitVec.ofNat 8 (n16.toNat / 256)] ∧
    encode (.ldh_a_mn8 n8) = [0xF0#8, n8] ∧ encode .ldh_a_mc = [0xF2#8] ∧
    exec (.ld_a_mn16 n16) s = .next { s with a := s.memRead n16 } ∧
    exec (.ldh_a_mn8 n8) s = .next { s with a := s.memRead (BitVec.ofNat 16 (0xFF00 + n8.toNat)) } ∧
    exec .ldh_a_mc s = .next { s with a := s.memRead (BitVec.ofNat 16 (0xFF00 + s.c.toNat)) }

/-- LD (n16),A, LDH (n8),A, LDH (C),A: A is stored at n16, or at 0xFF00 plus an unsigned offset (40_loads8.md R110, R112, R114). -/
def Obligations.StoreAAtAbsoluteOrIoPage : Prop :=
  ∀ (s : State) (n8 : Byte) (n16 : Word),
    encode (.ld_mn16_a n16) = [0xEA#8, BitVec.ofNat 8 n16.toNat, BitVec.ofNat 8 (n16.toNat / 256)] ∧
    encode (.ldh_mn8_a n8) = [0xE0#8, n8] ∧ encode .ldh_mc_a = [0xE2#8] ∧
    (∃ t, exec (.ld_mn16_a n16) s = .next t ∧ StoresByte s t n16 s.a ∧ t = { s with mem := t.mem }) ∧
    (∃ t, exec (.ldh_mn8_a n8) s = .next t ∧ StoresByte s t (BitVec.ofNat 16 (0xFF00 + n8.toNat)) s.a ∧
      t = { s with mem := t.mem }) ∧
    ∃ t, exec .ldh_mc_a s = .next t ∧ StoresByte s t (BitVec.ofNat 16 (0xFF00 + s.c.toNat)) s.a ∧
      t = { s with mem := t.mem }

/-! ### 16-bit loads and the stack -/

/-- LD rr,n16, low byte first in the instruction (41_loads16_stack.md R130; 20_memory.md R45). -/
def Obligations.LoadPairImmediate : Prop :=
  ∀ (p : R16) (n : Word) (s : State),
    encode (Form.ldPair p n).instr =
      [BitVec.ofNat 8 (0x01 + 16 * p.field), BitVec.ofNat 8 n.toNat, BitVec.ofNat 8 (n.toNat / 256)] ∧
    ∃ t, exec (Form.ldPair p n).instr s = .next t ∧ WritesPair s t p n ∧ t.flags = s.flags

/-- LD (n16),SP stores SP low byte first at n16 and n16+1 modulo 65536 (41_loads16_stack.md R131; 20_memory.md R46); LD SP,HL copies HL
(R132). -/
def Obligations.StoreSpAndLoadSpFromHl : Prop :=
  ∀ (s : State) (n : Word),
    encode (.ld_mn16_sp n) = [0x08#8, BitVec.ofNat 8 n.toNat, BitVec.ofNat 8 (n.toNat / 256)] ∧
    encode .ld_sp_hl = [0xF9#8] ∧
    (∃ t, exec (.ld_mn16_sp n) s = .next t ∧ StoresWord s t n s.sp ∧ t = { s with mem := t.mem }) ∧
    exec .ld_sp_hl s = .next { s with sp := s.hl }

/-- LD HL,SP+e8 and ADD SP,e8: the sum is SP plus the sign-extended byte modulo 65536; Z and N are cleared; H and C are, for a
non-negative byte, the carries out of the low nibble and the low byte, and for a negative one, by the document's rule, the
borrows of its magnitude (41_loads16_stack.md R133, R139; 43_alu16.md R183). -/
def Obligations.SpPlusSignedByte : Prop :=
  ∀ (s : State) (e : Byte),
    let sp := s.sp.toNat
    let m := 256 - e.toNat
    let flags : Flags :=
      if e.toNat < 128 then
        { z := false, n := false, h := decide (sp % 16 + e.toNat % 16 > 15), c := decide (sp % 256 + e.toNat > 255) }
      else { z := false, n := false, h := decide (m % 16 > sp % 16), c := decide (m > sp % 256) }
    Config.spAddNegRule = .borrow ∧
    encode (.ld_hl_spe8 e) = [0xF8#8, e] ∧ encode (.add_sp_e8 e) = [0xE8#8, e] ∧
    (∃ t, exec (.ld_hl_spe8 e) s = .next t ∧ t.hl = s.sp + e.signExtend 16 ∧ t.flags = flags ∧
      t = { s with h := t.h, l := t.l, flags := t.flags }) ∧
    exec (.add_sp_e8 e) s = .next { s with sp := s.sp + e.signExtend 16, flags := flags }

/-- Under `SPADD_NEG_RULE` = `carry` the sum is the same, and H and C are the carries of the unsigned byte for either sign; the two
rules differ, at SP = 1 and e8 = 0xFF (41_loads16_stack.md R139). -/
def Obligations.SpOffsetCarryRule : Prop :=
  (∀ (sp : Word) (e : Byte),
    addSpE8 .carry sp e =
      (sp + e.signExtend 16,
        { z := false, n := false, h := decide (sp.toNat % 16 + e.toNat % 16 > 15),
          c := decide (sp.toNat % 256 + e.toNat > 255) }) ∧
    (addSpE8 .borrow sp e).1 = (addSpE8 .carry sp e).1) ∧
  addSpE8 .carry 1#16 0xFF#8 ≠ addSpE8 .borrow 1#16 0xFF#8

/-- PUSH stores the pair as a word at SP-2, low byte at the lower address, and lowers SP by 2 modulo 65536; for AF the low byte has
Z, N, H, C in bits 7 to 4 and zeros below (41_loads16_stack.md R134, R137). -/
def Obligations.PushStoresPair : Prop :=
  ∀ (p : R16Stk) (s : State),
    let pair : Nat :=
      match p with
      | .bc => s.b.toNat * 256 + s.c.toNat
      | .de => s.d.toNat * 256 + s.e.toNat
      | .hl => s.h.toNat * 256 + s.l.toNat
      | .af =>
        s.a.toNat * 256 +
          (128 * s.flags.z.toNat + 64 * s.flags.n.toNat + 32 * s.flags.h.toNat + 16 * s.flags.c.toNat)
    encode (Form.push p).instr = [BitVec.ofNat 8 (0xC5 + 16 * p.field)] ∧
    ∃ t, exec (Form.push p).instr s = .next t ∧ t.sp = s.sp - 2#16 ∧
      StoresWord s t (s.sp - 2#16) (BitVec.ofNat 16 pair) ∧ t = { s with sp := t.sp, mem := t.mem }

/-- POP BC, DE, HL load the word at SP and SP+1, low byte first, and raise SP by 2 modulo 65536; no flag, no memory
(41_loads16_stack.md R135, R138). -/
def Obligations.PopLoadsPair : Prop :=
  ∀ s : State,
    let lo := s.memRead s.sp
    let hi := s.memRead (s.sp + 1#16)
    encode .pop_bc = [0xC1#8] ∧ encode .pop_de = [0xD1#8] ∧ encode .pop_hl = [0xE1#8] ∧
    exec .pop_bc s = .next { s with b := hi, c := lo, sp := s.sp + 2#16 } ∧
    exec .pop_de s = .next { s with d := hi, e := lo, sp := s.sp + 2#16 } ∧
    exec .pop_hl s = .next { s with h := hi, l := lo, sp := s.sp + 2#16 }

/-- POP AF loads A from SP+1 and the four flags from bits 7 to 4 of the byte at SP (41_loads16_stack.md R136). -/
def Obligations.PopAfLoadsFlags : Prop :=
  ∀ s : State,
    let lo := s.memRead s.sp
    encode .pop_af = [0xF1#8] ∧
    exec .pop_af s =
      .next { s with
        a := s.memRead (s.sp + 1#16)
        flags :=
          { z := decide (lo.toNat / 128 % 2 = 1), n := decide (lo.toNat / 64 % 2 = 1),
            h := decide (lo.toNat / 32 % 2 = 1), c := decide (lo.toNat / 16 % 2 = 1) }
        sp := s.sp + 2#16 }

/-- Popping what was pushed gives it back, and SP its value before the push, for every value and every SP (41_loads16_stack.md R138);
so PUSH then POP of one pair changes no register and no flag. -/
def Obligations.PushThenPopRestores : Prop :=
  (∀ (s : State) (v : Word), (s.push16 v).pop16.1 = v ∧ (s.push16 v).pop16.2.sp = s.sp) ∧
  ∀ (s : State) (p : R16Stk), ∃ t u, exec (Form.push p).instr s = .next t ∧ exec (Form.pop p).instr t = .next u ∧
    u = { s with mem := t.mem }

/-! ### 8-bit arithmetic and logic -/

/-- ADD and ADC, for all nine second operands: A is the sum modulo 256, Z its being zero, N = 0, H and C the carries out of bits
3 and 7, the old carry taking part in ADC (42_alu8.md R150, R152, R153, R167). -/
def Obligations.AddAndAddWithCarry : Prop :=
  ∀ (s : State) (x : AluArg),
    let a := s.a.toNat
    let b := (x.value s).toNat
    let cin := s.flags.c.toNat
    encode (aluInstrOf .add x) = aluBytes .add x ∧ encode (aluInstrOf .adc x) = aluBytes .adc x ∧
    exec (aluInstrOf .add x) s =
      .next { s with
        a := BitVec.ofNat 8 (a + b)
        flags :=
          { z := decide ((a + b) % 256 = 0), n := false, h := decide (a % 16 + b % 16 > 15), c := decide (a + b > 255) } } ∧
    exec (aluInstrOf .adc x) s =
      .next { s with
        a := BitVec.ofNat 8 (a + b + cin)
        flags :=
          { z := decide ((a + b + cin) % 256 = 0), n := false, h := decide (a % 16 + b % 16 + cin > 15),
            c := decide (a + b + cin > 255) } }

/-- SUB, SBC and CP, for all nine second operands: the difference modulo 256, Z its being zero, N = 1, H and C the borrows, the
old carry taking part in SBC; CP writes the flags of SUB and leaves A (42_alu8.md R151, R154, R155, R159, R167). -/
def Obligations.SubtractAndCompare : Prop :=
  ∀ (s : State) (x : AluArg),
    let a := s.a.toNat
    let b := (x.value s).toNat
    let cin := s.flags.c.toNat
    let subFlags : Flags := { z := decide (a = b), n := true, h := decide (b % 16 > a % 16), c := decide (b > a) }
    encode (aluInstrOf .sub x) = aluBytes .sub x ∧ encode (aluInstrOf .sbc x) = aluBytes .sbc x ∧
    encode (aluInstrOf .cp x) = aluBytes .cp x ∧
    exec (aluInstrOf .sub x) s = .next { s with a := BitVec.ofNat 8 (a + 256 - b), flags := subFlags } ∧
    exec (aluInstrOf .sbc x) s =
      .next { s with
        a := BitVec.ofNat 8 (a + 512 - b - cin)
        flags :=
          { z := decide ((a + 512 - b - cin) % 256 = 0), n := true, h := decide (b % 16 + cin > a % 16),
            c := decide (b + cin > a) } } ∧
    exec (aluInstrOf .cp x) s = .next { s with flags := subFlags }

/-- AND, XOR and OR, for all nine second operands, bit by bit; Z the result's being zero, N = C = 0, and H = 0, the document's
value of `AND_SETS_H` being false (42_alu8.md R156 to R158, R167). -/
def Obligations.LogicOperations : Prop :=
  ∀ (s : State) (x : AluArg),
    let b := x.value s
    let flags (r : Byte) : Flags := { z := decide (r.toNat = 0), n := false, h := false, c := false }
    Config.andSetsH = false ∧
    encode (aluInstrOf .and x) = aluBytes .and x ∧ encode (aluInstrOf .xor x) = aluBytes .xor x ∧
    encode (aluInstrOf .or x) = aluBytes .or x ∧
    (∃ t, exec (aluInstrOf .and x) s = .next t ∧ (∀ k, k < 8 → t.a.getLsbD k = (s.a.getLsbD k && b.getLsbD k)) ∧
      t = { s with a := t.a, flags := flags t.a }) ∧
    (∃ t, exec (aluInstrOf .xor x) s = .next t ∧ (∀ k, k < 8 → t.a.getLsbD k = (s.a.getLsbD k != b.getLsbD k)) ∧
      t = { s with a := t.a, flags := flags t.a }) ∧
    ∃ t, exec (aluInstrOf .or x) s = .next t ∧ (∀ k, k < 8 → t.a.getLsbD k = (s.a.getLsbD k || b.getLsbD k)) ∧
      t = { s with a := t.a, flags := flags t.a }

/-- The readings the parameters switch on (log entry 4): under `AND_SETS_H` AND sets H and differs in nothing else; under
`ROTA_Z_FROM_RESULT` Z of the accumulator rotates follows the result (42_alu8.md R156; 44_rotates_cb.md R190 to R193). -/
def Obligations.ParameterReadings : Prop :=
  (∀ a b : Byte, and8 true a b = ((and8 false a b).1, { (and8 false a b).2 with h := true })) ∧
  ∀ (k : RotOp) (v : Byte) (cin : Bool),
    accRotFlags true (rot8 k v cin) = { accRotFlags false (rot8 k v cin) with z := decide ((rot8 k v cin).1.toNat = 0) }

/-- INC and DEC of a register or (HL): one more, one less, modulo 256; Z, N and H of the operation; C is preserved (42_alu8.md
R160 to R163). -/
def Obligations.IncrementAndDecrementOperand : Prop :=
  ∀ (x : R8) (s : State),
    let orig := (s.readR8 x).toNat
    encode (Form.inc x).instr = [BitVec.ofNat 8 (0x04 + 8 * x.field)] ∧
    encode (Form.dec x).instr = [BitVec.ofNat 8 (0x05 + 8 * x.field)] ∧
    (∃ t, exec (Form.inc x).instr s = .next t ∧ WritesOperand s t x (BitVec.ofNat 8 (orig + 1)) ∧
      t.flags = { z := decide (orig = 0xFF), n := false, h := decide (orig % 16 = 15), c := s.flags.c }) ∧
    ∃ t, exec (Form.dec x).instr s = .next t ∧ WritesOperand s t x (BitVec.ofNat 8 (orig + 255)) ∧
      t.flags = { z := decide (orig = 1), n := true, h := decide (orig % 16 = 0), c := s.flags.c }

/-- CPL, SCF and CCF (42_alu8.md R164 to R166). -/
def Obligations.ComplementAndCarryInstructions : Prop :=
  ∀ s : State,
    encode .cpl = [0x2F#8] ∧ encode .scf = [0x37#8] ∧ encode .ccf = [0x3F#8] ∧
    exec .cpl s =
      .next { s with
        a := BitVec.ofNat 8 (255 - s.a.toNat), flags := { z := s.flags.z, n := true, h := true, c := s.flags.c } } ∧
    exec .scf s = .next { s with flags := { z := s.flags.z, n := false, h := false, c := true } } ∧
    exec .ccf s = .next { s with flags := { z := s.flags.z, n := false, h := false, c := !s.flags.c } }

/-! ### 16-bit arithmetic -/

/-- ADD HL,rr: the sum modulo 65536, N = 0, H and C the carries out of bits 11 and 15, Z unaffected; for HL itself the operand
is read before the write (43_alu16.md R180). -/
def Obligations.AddPairToHl : Prop :=
  ∀ (p : R16) (s : State),
    let hl := s.hl.toNat
    let val := (s.readR16 p).toNat
    encode (Form.addHl p).instr = [BitVec.ofNat 8 (0x09 + 16 * p.field)] ∧
    ∃ t, exec (Form.addHl p).instr s = .next t ∧ WritesPair s t .hl (BitVec.ofNat 16 (hl + val)) ∧
      t.flags =
        { z := s.flags.z, n := false, h := decide (hl % 4096 + val % 4096 > 4095), c := decide (hl + val > 65535) }

/-- INC rr and DEC rr: one more, one less, modulo 65536, no flag (43_alu16.md R181, R182). -/
def Obligations.IncrementAndDecrementPair : Prop :=
  ∀ (p : R16) (s : State),
    encode (Form.incPair p).instr = [BitVec.ofNat 8 (0x03 + 16 * p.field)] ∧
    encode (Form.decPair p).instr = [BitVec.ofNat 8 (0x0B + 16 * p.field)] ∧
    (∃ t, exec (Form.incPair p).instr s = .next t ∧ WritesPair s t p (BitVec.ofNat 16 ((s.readR16 p).toNat + 1)) ∧
      t.flags = s.flags) ∧
    ∃ t, exec (Form.decPair p).instr s = .next t ∧ WritesPair s t p (BitVec.ofNat 16 ((s.readR16 p).toNat + 65535)) ∧
      t.flags = s.flags

/-! ### Rotates, shifts, bits -/

/-- RLCA and RRCA rotate A on itself, RLA and RRA rotate the nine bits C:A and A:C; Z = N = H = 0, C the bit moved out, the default
of `ROTA_Z_FROM_RESULT` being false (44_rotates_cb.md R190 to R194). -/
def Obligations.AccumulatorRotates : Prop :=
  ∀ s : State,
    let flags (c : Bool) : Flags := { z := false, n := false, h := false, c := c }
    Config.rotaZFromResult = false ∧
    encode .rlca = [0x07#8] ∧ encode .rrca = [0x0F#8] ∧ encode .rla = [0x17#8] ∧ encode .rra = [0x1F#8] ∧
    exec .rlca s = .next { s with a := s.a.rotateLeft 1, flags := flags s.a.msb } ∧
    exec .rrca s = .next { s with a := s.a.rotateRight 1, flags := flags (s.a.getLsbD 0) } ∧
    (∃ t, exec .rla s = .next t ∧ t.flags.c = s.a.msb ∧
      BitVec.ofBool t.flags.c ++ t.a = (BitVec.ofBool s.flags.c ++ s.a).rotateLeft 1 ∧
      t = { s with a := t.a, flags := flags t.flags.c }) ∧
    ∃ t, exec .rra s = .next t ∧ t.flags.c = s.a.getLsbD 0 ∧
      t.a ++ BitVec.ofBool t.flags.c = (s.a ++ BitVec.ofBool s.flags.c).rotateRight 1 ∧
      t = { s with a := t.a, flags := flags t.flags.c }

/-- RLC, RRC (rotates of the byte) and RL, RR (rotates of nine bits through C) on a register or (HL): Z of the result,
N = H = 0, C the bit moved out (44_rotates_cb.md R194 to R198). -/
def Obligations.PrefixedRotates : Prop :=
  ∀ (x : R8) (s : State),
    let v := s.readR8 x
    let flags (r : Byte) (c : Bool) : Flags := { z := decide (r = 0#8), n := false, h := false, c := c }
    let rl := (BitVec.ofBool s.flags.c ++ v).rotateLeft 1
    let rr := (v ++ BitVec.ofBool s.flags.c).rotateRight 1
    (encode (Form.rot .rlc x).instr = [0xCB#8, BitVec.ofNat 8 x.field] ∧
      ∃ t, exec (Form.rot .rlc x).instr s = .next t ∧ WritesOperand s t x (v.rotateLeft 1) ∧
        t.flags = flags (v.rotateLeft 1) v.msb) ∧
    (encode (Form.rot .rrc x).instr = [0xCB#8, BitVec.ofNat 8 (0x08 + x.field)] ∧
      ∃ t, exec (Form.rot .rrc x).instr s = .next t ∧ WritesOperand s t x (v.rotateRight 1) ∧
        t.flags = flags (v.rotateRight 1) (v.getLsbD 0)) ∧
    (encode (Form.rot .rl x).instr = [0xCB#8, BitVec.ofNat 8 (0x10 + x.field)] ∧
      ∃ t, exec (Form.rot .rl x).instr s = .next t ∧ WritesOperand s t x (rl.setWidth 8) ∧
        t.flags = flags (rl.setWidth 8) v.msb) ∧
    encode (Form.rot .rr x).instr = [0xCB#8, BitVec.ofNat 8 (0x18 + x.field)] ∧
      ∃ t, exec (Form.rot .rr x).instr s = .next t ∧ WritesOperand s t x (rr.extractLsb' 1 8) ∧
        t.flags = flags (rr.extractLsb' 1 8) (v.getLsbD 0)

/-- SLA doubles, SRA halves the signed byte, SRL halves the unsigned one, SWAP exchanges the nibbles, on a register or (HL): Z of
the result, N = H = 0, C the bit moved out, and 0 for SWAP (44_rotates_cb.md R194, R199 to R202). -/
def Obligations.PrefixedShiftsAndSwap : Prop :=
  ∀ (x : R8) (s : State),
    let v := s.readR8 x
    let n := v.toNat
    let flags (r : Byte) (c : Bool) : Flags := { z := decide (r = 0#8), n := false, h := false, c := c }
    let sla := BitVec.ofNat 8 (2 * n)
    let sra := BitVec.ofInt 8 (v.toInt / 2)
    let swap := BitVec.ofNat 8 (16 * (n % 16) + n / 16)
    let srl := BitVec.ofNat 8 (n / 2)
    (encode (Form.rot .sla x).instr = [0xCB#8, BitVec.ofNat 8 (0x20 + x.field)] ∧
      ∃ t, exec (Form.rot .sla x).instr s = .next t ∧ WritesOperand s t x sla ∧ t.flags = flags sla (decide (n ≥ 128))) ∧
    (encode (Form.rot .sra x).instr = [0xCB#8, BitVec.ofNat 8 (0x28 + x.field)] ∧
      ∃ t, exec (Form.rot .sra x).instr s = .next t ∧ WritesOperand s t x sra ∧ t.flags = flags sra (decide (n % 2 = 1))) ∧
    (encode (Form.rot .swap x).instr = [0xCB#8, BitVec.ofNat 8 (0x30 + x.field)] ∧
      ∃ t, exec (Form.rot .swap x).instr s = .next t ∧ WritesOperand s t x swap ∧ t.flags = flags swap false) ∧
    encode (Form.rot .srl x).instr = [0xCB#8, BitVec.ofNat 8 (0x38 + x.field)] ∧
      ∃ t, exec (Form.rot .srl x).instr s = .next t ∧ WritesOperand s t x srl ∧ t.flags = flags srl (decide (n % 2 = 1))

/-- BIT b,x: Z is set exactly when bit b of the operand is 0, N = 0, H = 1, C unaffected, and nothing else is written
(44_rotates_cb.md R203). -/
def Obligations.BitTestsOneBit : Prop :=
  ∀ (b : Idx) (x : R8) (s : State),
    encode (Form.bit b x).instr = [0xCB#8, BitVec.ofNat 8 (0x40 + 8 * b.field + x.field)] ∧
    exec (Form.bit b x).instr s =
      .next { s with
        flags := { z := decide ((s.readR8 x).toNat / 2 ^ b.field % 2 = 0), n := false, h := true, c := s.flags.c } }

/-- RES b,x and SET b,x: bit b of the operand becomes 0, or 1, its other bits stay, no flag (44_rotates_cb.md R204, R205). -/
def Obligations.ResetAndSetOneBit : Prop :=
  ∀ (b : Idx) (x : R8) (s : State),
    encode (Form.res b x).instr = [0xCB#8, BitVec.ofNat 8 (0x80 + 8 * b.field + x.field)] ∧
    encode (Form.set b x).instr = [0xCB#8, BitVec.ofNat 8 (0xC0 + 8 * b.field + x.field)] ∧
    (∃ t v, exec (Form.res b x).instr s = .next t ∧ WritesOperand s t x v ∧ t.flags = s.flags ∧
      ∀ k, k < 8 → v.getLsbD k = if k = b.field then false else (s.readR8 x).getLsbD k) ∧
    ∃ t v, exec (Form.set b x).instr s = .next t ∧ WritesOperand s t x v ∧ t.flags = s.flags ∧
      ∀ k, k < 8 → v.getLsbD k = if k = b.field then true else (s.readR8 x).getLsbD k

/-- The escape byte's row has the effect of the prefixed instruction that the decoder reads from the escape byte and the byte
after it, and completes (30_encoding.md R67, R69). -/
def Obligations.EscapeRunsPrefixedInstruction : Prop :=
  ∀ (op2 : Byte) (s : State),
    encode (.escape_cb op2) = [0xCB#8, op2] ∧
    ∃ i t, decode [0xCB#8, op2] = .instr i [] ∧ exec (.escape_cb op2) s = .next t ∧ exec i s = .next t

/-! ### Control transfer -/

/-- NOP changes nothing but PC, which a step at a byte 0x00 moves by one modulo 65536 (45_control.md R220). -/
def Obligations.NopChangesOnlyPc : Prop :=
  ∀ s : State,
    encode .nop = [0x00#8] ∧
    exec .nop s = .next s ∧ (s.memRead s.pc = 0x00#8 → step s = .next { s with pc := s.pc + 1#16 })

/-- JP n16, JP HL and JP cc,n16: PC becomes the target, or, when the condition fails, nothing changes (45_control.md R221 to R223,
R231). -/
def Obligations.AbsoluteJumps : Prop :=
  ∀ (s : State) (n : Word),
    (∀ i ∈ [(Instr.jp_n16 n, 0xC3#8), (.jp_nz_n16 n, 0xC2#8), (.jp_z_n16 n, 0xCA#8), (.jp_nc_n16 n, 0xD2#8),
        (.jp_c_n16 n, 0xDA#8)],
      encode i.1 = [i.2, BitVec.ofNat 8 n.toNat, BitVec.ofNat 8 (n.toNat / 256)]) ∧
    encode .jp_hl = [0xE9#8] ∧
    exec (.jp_n16 n) s = .next { s with pc := n } ∧
    exec .jp_hl s = .next { s with pc := BitVec.ofNat 16 (s.h.toNat * 256 + s.l.toNat) } ∧
    exec (.jp_nz_n16 n) s = .next (if s.flags.z = false then { s with pc := n } else s) ∧
    exec (.jp_z_n16 n) s = .next (if s.flags.z = true then { s with pc := n } else s) ∧
    exec (.jp_nc_n16 n) s = .next (if s.flags.c = false then { s with pc := n } else s) ∧
    exec (.jp_c_n16 n) s = .next (if s.flags.c = true then { s with pc := n } else s)

/-- JR e8 and JR cc,e8: PC, past the displacement byte, moves by the signed displacement modulo 65536, or, when the condition
fails, nothing changes (45_control.md R224, R225, R231). -/
def Obligations.RelativeJumps : Prop :=
  ∀ (s : State) (e : Byte),
    let target := BitVec.ofInt 16 (s.pc.toNat + e.toInt)
    (∀ i ∈ [(Instr.jr_e8 e, 0x18#8), (.jr_nz_e8 e, 0x20#8), (.jr_z_e8 e, 0x28#8), (.jr_nc_e8 e, 0x30#8),
        (.jr_c_e8 e, 0x38#8)],
      encode i.1 = [i.2, e]) ∧
    exec (.jr_e8 e) s = .next { s with pc := target } ∧
    exec (.jr_nz_e8 e) s = .next (if s.flags.z = false then { s with pc := target } else s) ∧
    exec (.jr_z_e8 e) s = .next (if s.flags.z = true then { s with pc := target } else s) ∧
    exec (.jr_nc_e8 e) s = .next (if s.flags.c = false then { s with pc := target } else s) ∧
    exec (.jr_c_e8 e) s = .next (if s.flags.c = true then { s with pc := target } else s)

/-- CALL n16, CALL cc,n16 whose condition holds, and RST push the return address, PC past the instruction, as PUSH does, and
jump; RST y jumps to 8*y; CALL cc,n16 whose condition fails changes nothing (45_control.md R226, R227, R230). -/
def Obligations.CallsPushReturnAddress : Prop :=
  ∀ (s : State) (n : Word) (cc : Cond) (v : Idx),
    let calls (t : State) (target : Word) : Prop :=
      t.pc = target ∧ t.sp = s.sp - 2#16 ∧ StoresWord s t (s.sp - 2#16) s.pc ∧
        t = { s with pc := t.pc, sp := t.sp, mem := t.mem }
    encode (.call_n16 n) = [0xCD#8, BitVec.ofNat 8 n.toNat, BitVec.ofNat 8 (n.toNat / 256)] ∧
    (∃ t, exec (.call_n16 n) s = .next t ∧ calls t n) ∧
    encode (Form.callCond cc n).instr =
      [BitVec.ofNat 8 (0xC4 + 8 * cc.field), BitVec.ofNat 8 n.toNat, BitVec.ofNat 8 (n.toNat / 256)] ∧
    (s.flags.holds cc = true → ∃ t, exec (Form.callCond cc n).instr s = .next t ∧ calls t n) ∧
    (s.flags.holds cc = false → exec (Form.callCond cc n).instr s = .next s) ∧
    encode (Form.rst v).instr = [BitVec.ofNat 8 (0xC7 + 8 * v.field)] ∧
    ∃ t, exec (Form.rst v).instr s = .next t ∧ calls t (BitVec.ofNat 16 (8 * v.field))

/-- RET, and RET cc whose condition holds, load PC with the word at SP, low byte first, and raise SP by 2 modulo 65536; RET cc whose
condition fails changes nothing; CALL followed by RET returns PC to the instruction after the CALL, and SP to its value before
it (45_control.md R228, R229). -/
def Obligations.ReturnsPopPc : Prop :=
  ∀ (s : State) (cc : Cond),
    let popped : State :=
      { s with
        pc := BitVec.ofNat 16 ((s.memRead (s.sp + 1#16)).toNat * 256 + (s.memRead s.sp).toNat)
        sp := s.sp + 2#16 }
    encode .ret = [0xC9#8] ∧ exec .ret s = .next popped ∧
    encode (Form.retCond cc).instr = [BitVec.ofNat 8 (0xC0 + 8 * cc.field)] ∧
    (s.flags.holds cc = true → exec (Form.retCond cc).instr s = .next popped) ∧
    (s.flags.holds cc = false → exec (Form.retCond cc).instr s = .next s) ∧
    ∀ n : Word, ∃ t, exec (.call_n16 n) s = .next t ∧
      ∀ pc' : Word, exec .ret { t with pc := pc' } = .next { s with mem := t.mem }

/-- A conditional instruction whose condition is false on the flags its step begins with does exactly this: PC advances by the
instruction's length; no register, flag, SP or memory byte changes, nothing is pushed or popped. NZ fails on Z, Z on not Z, NC on
C, C on not C (45_control.md R231; 30_encoding.md R65). -/
def Obligations.FalseConditionChangesNothing : Prop :=
  ∀ (s : State) (cc : Cond) (n : Word) (e : Byte),
    (match cc with
      | .nz => s.flags.z = true
      | .z => s.flags.z = false
      | .nc => s.flags.c = true
      | .c => s.flags.c = false) →
    (exec (Form.jpCond cc n).instr s = .next s ∧ exec (Form.jrCond cc e).instr s = .next s ∧
      exec (Form.callCond cc n).instr s = .next s ∧ exec (Form.retCond cc).instr s = .next s) ∧
    (s.fetchDecode.1 = .instr (Form.jpCond cc n).instr [] → step s = .next { s with pc := s.pc + 3#16 }) ∧
    (s.fetchDecode.1 = .instr (Form.jrCond cc e).instr [] → step s = .next { s with pc := s.pc + 2#16 }) ∧
    (s.fetchDecode.1 = .instr (Form.callCond cc n).instr [] → step s = .next { s with pc := s.pc + 3#16 }) ∧
    (s.fetchDecode.1 = .instr (Form.retCond cc).instr [] → step s = .next { s with pc := s.pc + 1#16 })
end

