-- ==== Sys2Proof/Laws/Words.lean ====
section
/-! SUPPORT. Bytes and words: taking a word apart and putting it together. -/

namespace Sys2Proof

/-- `hi*256 + lo` (00_scope.md R5). -/
theorem wordOf_toNat (hi lo : Byte) : (wordOf hi lo).toNat = hi.toNat * 256 + lo.toNat := by
  simp only [wordOf]
  rw [BitVec.toNat_append, ← Nat.shiftLeft_add_eq_or_of_lt lo.isLt, Nat.shiftLeft_eq]

theorem hiByte_toNat (v : Word) : (hiByte v).toNat = v.toNat / 256 := by
  have := v.isLt
  rw [hiByte, BitVec.extractLsb'_toNat, Nat.shiftRight_eq_div_pow]
  omega

theorem loByte_toNat (v : Word) : (loByte v).toNat = v.toNat % 256 := by
  simp [loByte, BitVec.extractLsb'_toNat]

@[simp] theorem hiByte_wordOf (hi lo : Byte) : hiByte (wordOf hi lo) = hi := by
  have := hi.isLt
  have := lo.isLt
  apply BitVec.eq_of_toNat_eq
  rw [hiByte_toNat, wordOf_toNat]
  omega

@[simp] theorem loByte_wordOf (hi lo : Byte) : loByte (wordOf hi lo) = lo := by
  have := hi.isLt
  have := lo.isLt
  apply BitVec.eq_of_toNat_eq
  rw [loByte_toNat, wordOf_toNat]
  omega

@[simp] theorem wordOf_hiByte_loByte (v : Word) : wordOf (hiByte v) (loByte v) = v := by
  have := v.isLt
  apply BitVec.eq_of_toNat_eq
  rw [wordOf_toNat, hiByte_toNat, loByte_toNat]
  omega

/-- A one-byte step up and down of an address. -/
theorem word_add_one_sub_two (v : Word) : v - 2#16 + 1#16 = v - 1#16 := by bv_omega

theorem word_sub_one_sub_one (v : Word) : v - 1#16 - 1#16 = v - 2#16 := by bv_omega

theorem word_add_one_add_one (v : Word) : v + 1#16 + 1#16 = v + 2#16 := by bv_omega

theorem word_ne_add_one (v : Word) : v + 1#16 ≠ v := by bv_omega

end Sys2Proof
end

