-- ==== Sys2Proof/Laws/Encoding.lean ====
section
/-! SUPPORT. The decoder on an encoder's word, and the fields of the operand tables. -/

namespace Sys2Proof

@[simp] theorem R8.ofField_field (r : R8) : R8.ofField r.field = r := by cases r <;> rfl
@[simp] theorem R16.ofField_field (p : R16) : R16.ofField p.field = p := by cases p <;> rfl
@[simp] theorem R16Stk.ofField_field (p : R16Stk) : R16Stk.ofField p.field = p := by cases p <;> rfl
@[simp] theorem R16Mem.ofField_field (m : R16Mem) : R16Mem.ofField m.field = m := by cases m <;> rfl
@[simp] theorem Cond.ofField_field (cc : Cond) : Cond.ofField cc.field = cc := by cases cc <;> rfl
@[simp] theorem AluOp.ofField_field (op : AluOp) : AluOp.ofField op.field = op := by cases op <;> rfl
@[simp] theorem RotOp.ofField_field (k : RotOp) : RotOp.ofField k.field = k := by cases k <;> rfl
@[simp] theorem AccRot.ofField_field (k : AccRot) : AccRot.ofField k.field = k := by cases k <;> rfl
@[simp] theorem Idx.ofField_field (i : Idx) : Idx.ofField i.field = i := by cases i <;> rfl

/-- A word is put together from two bytes. -/
theorem exists_wordOf (v : Word) : ∃ hi lo, v = wordOf hi lo := ⟨hiByte v, loByte v, (wordOf_hiByte_loByte v).symm⟩

/-- A claim about every byte, by its 256 values. -/
theorem forall_byte {P : Byte → Prop} (h : ∀ n, n < 256 → P (BitVec.ofNat 8 n)) (b : Byte) : P b := by
  have := h b.toNat b.isLt
  rwa [BitVec.ofNat_toNat, BitVec.setWidth_eq] at this

/-- The prefixed space is total, and the row a prefixed opcode byte selects encodes to the escape byte and that byte
(30_encoding.md R67, R69). -/
theorem encode_prefixedForm (op2 : Byte) :
    encode (prefixedForm op2).instr = [0xCB#8, op2] ∧ WellFormed (prefixedForm op2).instr := by
  refine forall_byte (P := fun op2 => encode (prefixedForm op2).instr = [0xCB#8, op2] ∧ WellFormed (prefixedForm op2).instr)
    (fun n hn => ?_) op2
  interval_cases n <;> exact ⟨rfl, rfl⟩

/-- What the decoder does with a first byte: one of the four shapes of 30_encoding.md R61, of the length `instrLength` gives, and the
instruction read encodes to the bytes read. -/
inductive DecodeShape (op : Byte) : Prop
  | one (f : Form) (len : instrLength op = 1) (dec : ∀ rest, decode (op :: rest) = noImm f rest)
      (enc : encode f.instr = [op]) (wf : WellFormed f.instr)
  | two (f : Byte → Form) (len : instrLength op = 2) (dec : ∀ rest, decode (op :: rest) = withByte op f rest)
      (enc : ∀ n, encode (f n).instr = [op, n]) (wf : ∀ n, WellFormed (f n).instr)
  | three (f : Word → Form) (len : instrLength op = 3) (dec : ∀ rest, decode (op :: rest) = withWord op f rest)
      (enc : ∀ n, encode (f n).instr = [op, loByte n, hiByte n]) (wf : ∀ n, WellFormed (f n).instr)
  | escape (len : instrLength op = 2) (eq : op = 0xCB#8) (dec : ∀ rest, decode (op :: rest) = afterEscape op rest)

/-- Every first byte has its shape: the base table is total (30_encoding.md R67, R68). -/
theorem decodeShape (op : Byte) : DecodeShape op := by
  refine forall_byte (fun n hn => ?_) op
  interval_cases n
  all_goals first
    | exact .one _ rfl (fun _ => rfl) rfl rfl
    | exact .two _ rfl (fun _ => rfl) (fun _ => rfl) (fun _ => rfl)
    | exact .three _ rfl (fun _ => rfl) (fun _ => rfl) (fun _ => rfl)
    | exact .escape rfl rfl (fun _ => rfl)

theorem instrLength_pos (op : Byte) : 0 < instrLength op := by
  rcases decodeShape op with ⟨_, h, _⟩ | ⟨_, h, _⟩ | ⟨_, h, _⟩ | ⟨h, _, _⟩ <;> omega

/-- Given the bytes its first byte announces, the decoder reads an instruction that encodes to them. -/
theorem decode_complete {op : Byte} {rest : List Byte} (h : rest.length + 1 = instrLength op) :
    ∃ i, decode (op :: rest) = .instr i [] ∧ encode i = op :: rest ∧ WellFormed i := by
  rcases decodeShape op with ⟨f, len, dec, enc, wf⟩ | ⟨f, len, dec, enc, wf⟩ | ⟨f, len, dec, enc, wf⟩ | ⟨len, rfl, dec⟩
  · obtain rfl : rest = [] := List.length_eq_zero_iff.mp (by omega)
    exact ⟨_, dec _, enc, wf⟩
  · obtain ⟨n, rfl⟩ := List.length_eq_one_iff.mp (show rest.length = 1 by omega)
    exact ⟨_, dec _, enc n, wf n⟩
  · obtain ⟨lo, hi, rfl⟩ := List.length_eq_two.mp (show rest.length = 2 by omega)
    exact ⟨_, dec _, by simp [enc], wf _⟩
  · obtain ⟨op2, rfl⟩ := List.length_eq_one_iff.mp (show rest.length = 1 by omega)
    exact ⟨_, dec _, (encode_prefixedForm op2).1, (encode_prefixedForm op2).2⟩

/-- The first byte of an instruction's encoding announces its length. -/
theorem encode_head (i : Instr) : ∃ op rest, encode i = op :: rest ∧ instrLength op = rest.length + 1 := by
  cases i <;> exact ⟨_, _, rfl, rfl⟩

end Sys2Proof
end

