-- ==== Sys2Proof/Laws/Memory.lean ====
section
/-! SUPPORT. The laws of memory: a read sees the latest write (20_memory.md R50), and every write keeps the canonical form. -/

namespace Sys2Proof.Machine

/-! ### Reading after the two pieces of a write -/

theorem Memory.read_erase_same (m : Memory) (addr : Nat) : (m.erase addr).read addr = Config.unlistedByte := by
  induction m with
  | nil => rfl
  | cons x rest ih =>
    by_cases h : x.1 = addr
    · simpa [Memory.erase, h] using ih
    · simpa [Memory.erase, Memory.read, h] using ih

theorem Memory.read_erase_other (m : Memory) {addr other : Nat} (h : other ≠ addr) :
    (m.erase addr).read other = m.read other := by
  induction m with
  | nil => rfl
  | cons x rest ih =>
    by_cases hx : x.1 = addr
    · simp only [Memory.erase, hx, if_true, Memory.read, ih]
      rw [if_neg (fun e => h e.symm)]
    · simp only [Memory.erase, hx, if_false, Memory.read, ih]

theorem Memory.read_insertCell_other (m : Memory) (x : Host.Cell) {other : Nat} (h : other ≠ x.1) :
    (m.insertCell x).read other = m.read other := by
  induction m with
  | nil => simp [Memory.insertCell, Memory.read, h.symm]
  | cons y rest ih =>
    by_cases hy : x.1 < y.1
    · simp [Memory.insertCell, Memory.read, hy, h.symm]
    · simp [Memory.insertCell, Memory.read, hy, ih]

/-- Inserting a cell where its address is not listed makes it the byte read there. -/
theorem Memory.read_insertCell_same (m : Memory) (x : Host.Cell) (h : ∀ y ∈ m, y.1 ≠ x.1) :
    (m.insertCell x).read x.1 = x.2 := by
  induction m with
  | nil => simp [Memory.insertCell, Memory.read]
  | cons y rest ih =>
    by_cases hy : x.1 < y.1
    · simp [Memory.insertCell, Memory.read, hy]
    · simp [Memory.insertCell, Memory.read, hy, h y (by simp), ih (fun z hz => h z (by simp [hz]))]

theorem Memory.mem_erase {m : Memory} {addr : Nat} {y : Host.Cell} : y ∈ m.erase addr ↔ y ∈ m ∧ y.1 ≠ addr := by
  induction m with
  | nil => simp [Memory.erase]
  | cons x rest ih =>
    by_cases h : x.1 = addr
    · simp only [Memory.erase, h, if_true, ih, List.mem_cons]
      constructor
      · rintro ⟨a, b⟩; exact ⟨.inr a, b⟩
      · rintro ⟨rfl | a, b⟩
        · exact absurd h b
        · exact ⟨a, b⟩
    · simp only [Memory.erase, h, if_false, List.mem_cons, ih]
      constructor
      · rintro (rfl | ⟨a, b⟩)
        · exact ⟨.inl rfl, h⟩
        · exact ⟨.inr a, b⟩
      · rintro ⟨rfl | a, b⟩
        · exact .inl rfl
        · exact .inr ⟨a, b⟩

/-- Reading back the byte written. -/
theorem Memory.read_write_same (m : Memory) (addr : Nat) (v : Byte) : (m.write addr v).read addr = v := by
  by_cases h : v = Config.unlistedByte
  · simp [Memory.write, h, Memory.read_erase_same]
  · simp only [Memory.write, h, if_false]
    exact Memory.read_insertCell_same _ (addr, v) fun y hy => (Memory.mem_erase.mp hy).2

/-- A write leaves every other address alone. -/
theorem Memory.read_write_other (m : Memory) {addr other : Nat} (v : Byte) (h : other ≠ addr) :
    (m.write addr v).read other = m.read other := by
  by_cases hv : v = Config.unlistedByte
  · simp [Memory.write, hv, Memory.read_erase_other m h]
  · simp only [Memory.write, hv, if_false]
    rw [Memory.read_insertCell_other _ _ h, Memory.read_erase_other m h]

/-! ### The canonical form -/

theorem Memory.wfFrom_cons {lo k : Nat} {v : Byte} {rest : Memory} :
    Memory.wfFrom lo ((k, v) :: rest) = true ↔
      lo ≤ k ∧ k < 65536 ∧ v ≠ Config.unlistedByte ∧ Memory.wfFrom (k + 1) rest = true := by
  simp [Memory.wfFrom, and_assoc]

theorem Memory.wfFrom_mono {lo lo' : Nat} {m : Memory} (h : Memory.wfFrom lo m = true) (hle : lo' ≤ lo) :
    Memory.wfFrom lo' m = true := by
  cases m with
  | nil => rfl
  | cons x rest =>
    obtain ⟨k, v⟩ := x
    rw [Memory.wfFrom_cons] at h ⊢
    exact ⟨by omega, h.2⟩

theorem Memory.wfFrom_erase {lo : Nat} {m : Memory} (addr : Nat) (h : Memory.wfFrom lo m = true) :
    Memory.wfFrom lo (m.erase addr) = true := by
  induction m generalizing lo with
  | nil => rfl
  | cons x rest ih =>
    obtain ⟨k, v⟩ := x
    rw [Memory.wfFrom_cons] at h
    obtain ⟨h1, h2, h3, h4⟩ := h
    by_cases hx : k = addr
    · simp only [Memory.erase, hx, if_true]
      exact Memory.wfFrom_mono (ih h4) (by omega)
    · simp only [Memory.erase, hx, if_false]
      exact Memory.wfFrom_cons.mpr ⟨h1, h2, h3, ih h4⟩

theorem Memory.wfFrom_insertCell {lo addr : Nat} {m : Memory} {v : Byte} (h : Memory.wfFrom lo m = true)
    (hlo : lo ≤ addr) (ha : addr < 65536) (hv : v ≠ Config.unlistedByte) (hm : ∀ y ∈ m, y.1 ≠ addr) :
    Memory.wfFrom lo (m.insertCell (addr, v)) = true := by
  induction m generalizing lo with
  | nil => exact Memory.wfFrom_cons.mpr ⟨hlo, ha, hv, rfl⟩
  | cons x rest ih =>
    obtain ⟨k, w⟩ := x
    have hne : k ≠ addr := hm (k, w) (by simp)
    rw [Memory.wfFrom_cons] at h
    obtain ⟨h1, h2, h3, h4⟩ := h
    by_cases hlt : addr < k
    · simp only [Memory.insertCell, hlt, if_true]
      exact Memory.wfFrom_cons.mpr ⟨hlo, ha, hv, Memory.wfFrom_cons.mpr ⟨by omega, h2, h3, h4⟩⟩
    · simp only [Memory.insertCell, hlt, if_false]
      exact Memory.wfFrom_cons.mpr ⟨h1, h2, h3, ih h4 (by omega) (fun y hy => hm y (by simp [hy]))⟩

/-- A write inside the address space keeps the canonical form. -/
theorem Memory.wf_write {m : Memory} {addr : Nat} (v : Byte) (h : m.wf = true) (ha : addr < 65536) :
    (m.write addr v).wf = true := by
  by_cases hv : v = Config.unlistedByte
  · simp only [Memory.write, hv, if_true]
    exact Memory.wfFrom_erase addr h
  · simp only [Memory.write, hv, if_false]
    exact Memory.wfFrom_insertCell (Memory.wfFrom_erase addr h) (Nat.zero_le _) ha hv
      fun y hy => (Memory.mem_erase.mp hy).2

/-- Below its first address a canonical memory reads as unlisted. -/
theorem Memory.read_of_lt {lo addr : Nat} {m : Memory} (h : Memory.wfFrom lo m = true) (ha : addr < lo) :
    m.read addr = Config.unlistedByte := by
  induction m generalizing lo with
  | nil => rfl
  | cons x rest ih =>
    obtain ⟨k, v⟩ := x
    rw [Memory.wfFrom_cons] at h
    obtain ⟨h1, -, -, h4⟩ := h
    have hne : k ≠ addr := by omega
    simp only [Memory.read, hne, if_false]
    exact ih h4 (by omega)

/-! ### The memory interface of the state -/

@[simp] theorem State.memRead_memWrite_same (s : State) (addr : Word) (v : Byte) :
    (s.memWrite addr v).memRead addr = v := Memory.read_write_same _ _ _

theorem State.memRead_memWrite_other (s : State) {addr other : Word} (v : Byte) (h : other ≠ addr) :
    (s.memWrite addr v).memRead other = s.memRead other :=
  Memory.read_write_other _ _ fun e => h (BitVec.eq_of_toNat_eq e)

theorem State.memRead_memWrite (s : State) (addr other : Word) (v : Byte) :
    (s.memWrite addr v).memRead other = if other = addr then v else s.memRead other := by
  by_cases h : other = addr
  · simp [h]
  · simp [h, State.memRead_memWrite_other s v h]

theorem State.wf_memWrite {s : State} (addr : Word) (v : Byte) (h : s.mem.wf = true) :
    (s.memWrite addr v).mem.wf = true := Memory.wf_write v h addr.isLt

/-- Reading depends on memory alone. -/
theorem State.memRead_congr {s t : State} (h : t.mem = s.mem) (addr : Word) : t.memRead addr = s.memRead addr := by
  simp [State.memRead, h]

end Sys2Proof.Machine
end

