-- ==== Sys2Proof/Laws/State.lean ====
section
/-! SUPPORT. One lemma per field per setter, so that no proof unfolds a record update. -/

namespace Sys2Proof.Machine

/-! ### setA -/

@[simp] theorem State.setA_a (s : State) (v : Byte) : (s.setA v).a = v := rfl
@[simp] theorem State.setA_b (s : State) (v : Byte) : (s.setA v).b = s.b := rfl
@[simp] theorem State.setA_c (s : State) (v : Byte) : (s.setA v).c = s.c := rfl
@[simp] theorem State.setA_d (s : State) (v : Byte) : (s.setA v).d = s.d := rfl
@[simp] theorem State.setA_e (s : State) (v : Byte) : (s.setA v).e = s.e := rfl
@[simp] theorem State.setA_h (s : State) (v : Byte) : (s.setA v).h = s.h := rfl
@[simp] theorem State.setA_l (s : State) (v : Byte) : (s.setA v).l = s.l := rfl
@[simp] theorem State.setA_flags (s : State) (v : Byte) : (s.setA v).flags = s.flags := rfl
@[simp] theorem State.setA_sp (s : State) (v : Byte) : (s.setA v).sp = s.sp := rfl
@[simp] theorem State.setA_pc (s : State) (v : Byte) : (s.setA v).pc = s.pc := rfl
@[simp] theorem State.setA_mem (s : State) (v : Byte) : (s.setA v).mem = s.mem := rfl

/-! ### setB -/

@[simp] theorem State.setB_a (s : State) (v : Byte) : (s.setB v).a = s.a := rfl
@[simp] theorem State.setB_b (s : State) (v : Byte) : (s.setB v).b = v := rfl
@[simp] theorem State.setB_c (s : State) (v : Byte) : (s.setB v).c = s.c := rfl
@[simp] theorem State.setB_d (s : State) (v : Byte) : (s.setB v).d = s.d := rfl
@[simp] theorem State.setB_e (s : State) (v : Byte) : (s.setB v).e = s.e := rfl
@[simp] theorem State.setB_h (s : State) (v : Byte) : (s.setB v).h = s.h := rfl
@[simp] theorem State.setB_l (s : State) (v : Byte) : (s.setB v).l = s.l := rfl
@[simp] theorem State.setB_flags (s : State) (v : Byte) : (s.setB v).flags = s.flags := rfl
@[simp] theorem State.setB_sp (s : State) (v : Byte) : (s.setB v).sp = s.sp := rfl
@[simp] theorem State.setB_pc (s : State) (v : Byte) : (s.setB v).pc = s.pc := rfl
@[simp] theorem State.setB_mem (s : State) (v : Byte) : (s.setB v).mem = s.mem := rfl

/-! ### setC -/

@[simp] theorem State.setC_a (s : State) (v : Byte) : (s.setC v).a = s.a := rfl
@[simp] theorem State.setC_b (s : State) (v : Byte) : (s.setC v).b = s.b := rfl
@[simp] theorem State.setC_c (s : State) (v : Byte) : (s.setC v).c = v := rfl
@[simp] theorem State.setC_d (s : State) (v : Byte) : (s.setC v).d = s.d := rfl
@[simp] theorem State.setC_e (s : State) (v : Byte) : (s.setC v).e = s.e := rfl
@[simp] theorem State.setC_h (s : State) (v : Byte) : (s.setC v).h = s.h := rfl
@[simp] theorem State.setC_l (s : State) (v : Byte) : (s.setC v).l = s.l := rfl
@[simp] theorem State.setC_flags (s : State) (v : Byte) : (s.setC v).flags = s.flags := rfl
@[simp] theorem State.setC_sp (s : State) (v : Byte) : (s.setC v).sp = s.sp := rfl
@[simp] theorem State.setC_pc (s : State) (v : Byte) : (s.setC v).pc = s.pc := rfl
@[simp] theorem State.setC_mem (s : State) (v : Byte) : (s.setC v).mem = s.mem := rfl

/-! ### setD -/

@[simp] theorem State.setD_a (s : State) (v : Byte) : (s.setD v).a = s.a := rfl
@[simp] theorem State.setD_b (s : State) (v : Byte) : (s.setD v).b = s.b := rfl
@[simp] theorem State.setD_c (s : State) (v : Byte) : (s.setD v).c = s.c := rfl
@[simp] theorem State.setD_d (s : State) (v : Byte) : (s.setD v).d = v := rfl
@[simp] theorem State.setD_e (s : State) (v : Byte) : (s.setD v).e = s.e := rfl
@[simp] theorem State.setD_h (s : State) (v : Byte) : (s.setD v).h = s.h := rfl
@[simp] theorem State.setD_l (s : State) (v : Byte) : (s.setD v).l = s.l := rfl
@[simp] theorem State.setD_flags (s : State) (v : Byte) : (s.setD v).flags = s.flags := rfl
@[simp] theorem State.setD_sp (s : State) (v : Byte) : (s.setD v).sp = s.sp := rfl
@[simp] theorem State.setD_pc (s : State) (v : Byte) : (s.setD v).pc = s.pc := rfl
@[simp] theorem State.setD_mem (s : State) (v : Byte) : (s.setD v).mem = s.mem := rfl

/-! ### setE -/

@[simp] theorem State.setE_a (s : State) (v : Byte) : (s.setE v).a = s.a := rfl
@[simp] theorem State.setE_b (s : State) (v : Byte) : (s.setE v).b = s.b := rfl
@[simp] theorem State.setE_c (s : State) (v : Byte) : (s.setE v).c = s.c := rfl
@[simp] theorem State.setE_d (s : State) (v : Byte) : (s.setE v).d = s.d := rfl
@[simp] theorem State.setE_e (s : State) (v : Byte) : (s.setE v).e = v := rfl
@[simp] theorem State.setE_h (s : State) (v : Byte) : (s.setE v).h = s.h := rfl
@[simp] theorem State.setE_l (s : State) (v : Byte) : (s.setE v).l = s.l := rfl
@[simp] theorem State.setE_flags (s : State) (v : Byte) : (s.setE v).flags = s.flags := rfl
@[simp] theorem State.setE_sp (s : State) (v : Byte) : (s.setE v).sp = s.sp := rfl
@[simp] theorem State.setE_pc (s : State) (v : Byte) : (s.setE v).pc = s.pc := rfl
@[simp] theorem State.setE_mem (s : State) (v : Byte) : (s.setE v).mem = s.mem := rfl

/-! ### setH -/

@[simp] theorem State.setH_a (s : State) (v : Byte) : (s.setH v).a = s.a := rfl
@[simp] theorem State.setH_b (s : State) (v : Byte) : (s.setH v).b = s.b := rfl
@[simp] theorem State.setH_c (s : State) (v : Byte) : (s.setH v).c = s.c := rfl
@[simp] theorem State.setH_d (s : State) (v : Byte) : (s.setH v).d = s.d := rfl
@[simp] theorem State.setH_e (s : State) (v : Byte) : (s.setH v).e = s.e := rfl
@[simp] theorem State.setH_h (s : State) (v : Byte) : (s.setH v).h = v := rfl
@[simp] theorem State.setH_l (s : State) (v : Byte) : (s.setH v).l = s.l := rfl
@[simp] theorem State.setH_flags (s : State) (v : Byte) : (s.setH v).flags = s.flags := rfl
@[simp] theorem State.setH_sp (s : State) (v : Byte) : (s.setH v).sp = s.sp := rfl
@[simp] theorem State.setH_pc (s : State) (v : Byte) : (s.setH v).pc = s.pc := rfl
@[simp] theorem State.setH_mem (s : State) (v : Byte) : (s.setH v).mem = s.mem := rfl

/-! ### setL -/

@[simp] theorem State.setL_a (s : State) (v : Byte) : (s.setL v).a = s.a := rfl
@[simp] theorem State.setL_b (s : State) (v : Byte) : (s.setL v).b = s.b := rfl
@[simp] theorem State.setL_c (s : State) (v : Byte) : (s.setL v).c = s.c := rfl
@[simp] theorem State.setL_d (s : State) (v : Byte) : (s.setL v).d = s.d := rfl
@[simp] theorem State.setL_e (s : State) (v : Byte) : (s.setL v).e = s.e := rfl
@[simp] theorem State.setL_h (s : State) (v : Byte) : (s.setL v).h = s.h := rfl
@[simp] theorem State.setL_l (s : State) (v : Byte) : (s.setL v).l = v := rfl
@[simp] theorem State.setL_flags (s : State) (v : Byte) : (s.setL v).flags = s.flags := rfl
@[simp] theorem State.setL_sp (s : State) (v : Byte) : (s.setL v).sp = s.sp := rfl
@[simp] theorem State.setL_pc (s : State) (v : Byte) : (s.setL v).pc = s.pc := rfl
@[simp] theorem State.setL_mem (s : State) (v : Byte) : (s.setL v).mem = s.mem := rfl

/-! ### setFlags -/

@[simp] theorem State.setFlags_a (s : State) (v : Flags) : (s.setFlags v).a = s.a := rfl
@[simp] theorem State.setFlags_b (s : State) (v : Flags) : (s.setFlags v).b = s.b := rfl
@[simp] theorem State.setFlags_c (s : State) (v : Flags) : (s.setFlags v).c = s.c := rfl
@[simp] theorem State.setFlags_d (s : State) (v : Flags) : (s.setFlags v).d = s.d := rfl
@[simp] theorem State.setFlags_e (s : State) (v : Flags) : (s.setFlags v).e = s.e := rfl
@[simp] theorem State.setFlags_h (s : State) (v : Flags) : (s.setFlags v).h = s.h := rfl
@[simp] theorem State.setFlags_l (s : State) (v : Flags) : (s.setFlags v).l = s.l := rfl
@[simp] theorem State.setFlags_flags (s : State) (v : Flags) : (s.setFlags v).flags = v := rfl
@[simp] theorem State.setFlags_sp (s : State) (v : Flags) : (s.setFlags v).sp = s.sp := rfl
@[simp] theorem State.setFlags_pc (s : State) (v : Flags) : (s.setFlags v).pc = s.pc := rfl
@[simp] theorem State.setFlags_mem (s : State) (v : Flags) : (s.setFlags v).mem = s.mem := rfl

/-! ### setSp -/

@[simp] theorem State.setSp_a (s : State) (v : Word) : (s.setSp v).a = s.a := rfl
@[simp] theorem State.setSp_b (s : State) (v : Word) : (s.setSp v).b = s.b := rfl
@[simp] theorem State.setSp_c (s : State) (v : Word) : (s.setSp v).c = s.c := rfl
@[simp] theorem State.setSp_d (s : State) (v : Word) : (s.setSp v).d = s.d := rfl
@[simp] theorem State.setSp_e (s : State) (v : Word) : (s.setSp v).e = s.e := rfl
@[simp] theorem State.setSp_h (s : State) (v : Word) : (s.setSp v).h = s.h := rfl
@[simp] theorem State.setSp_l (s : State) (v : Word) : (s.setSp v).l = s.l := rfl
@[simp] theorem State.setSp_flags (s : State) (v : Word) : (s.setSp v).flags = s.flags := rfl
@[simp] theorem State.setSp_sp (s : State) (v : Word) : (s.setSp v).sp = v := rfl
@[simp] theorem State.setSp_pc (s : State) (v : Word) : (s.setSp v).pc = s.pc := rfl
@[simp] theorem State.setSp_mem (s : State) (v : Word) : (s.setSp v).mem = s.mem := rfl

/-! ### setPc -/

@[simp] theorem State.setPc_a (s : State) (v : Word) : (s.setPc v).a = s.a := rfl
@[simp] theorem State.setPc_b (s : State) (v : Word) : (s.setPc v).b = s.b := rfl
@[simp] theorem State.setPc_c (s : State) (v : Word) : (s.setPc v).c = s.c := rfl
@[simp] theorem State.setPc_d (s : State) (v : Word) : (s.setPc v).d = s.d := rfl
@[simp] theorem State.setPc_e (s : State) (v : Word) : (s.setPc v).e = s.e := rfl
@[simp] theorem State.setPc_h (s : State) (v : Word) : (s.setPc v).h = s.h := rfl
@[simp] theorem State.setPc_l (s : State) (v : Word) : (s.setPc v).l = s.l := rfl
@[simp] theorem State.setPc_flags (s : State) (v : Word) : (s.setPc v).flags = s.flags := rfl
@[simp] theorem State.setPc_sp (s : State) (v : Word) : (s.setPc v).sp = s.sp := rfl
@[simp] theorem State.setPc_pc (s : State) (v : Word) : (s.setPc v).pc = v := rfl
@[simp] theorem State.setPc_mem (s : State) (v : Word) : (s.setPc v).mem = s.mem := rfl

/-! ### memWrite -/

@[simp] theorem State.memWrite_a (s : State) (addr : Word) (v : Byte) : (s.memWrite addr v).a = s.a := rfl
@[simp] theorem State.memWrite_b (s : State) (addr : Word) (v : Byte) : (s.memWrite addr v).b = s.b := rfl
@[simp] theorem State.memWrite_c (s : State) (addr : Word) (v : Byte) : (s.memWrite addr v).c = s.c := rfl
@[simp] theorem State.memWrite_d (s : State) (addr : Word) (v : Byte) : (s.memWrite addr v).d = s.d := rfl
@[simp] theorem State.memWrite_e (s : State) (addr : Word) (v : Byte) : (s.memWrite addr v).e = s.e := rfl
@[simp] theorem State.memWrite_h (s : State) (addr : Word) (v : Byte) : (s.memWrite addr v).h = s.h := rfl
@[simp] theorem State.memWrite_l (s : State) (addr : Word) (v : Byte) : (s.memWrite addr v).l = s.l := rfl
@[simp] theorem State.memWrite_flags (s : State) (addr : Word) (v : Byte) : (s.memWrite addr v).flags = s.flags := rfl
@[simp] theorem State.memWrite_sp (s : State) (addr : Word) (v : Byte) : (s.memWrite addr v).sp = s.sp := rfl
@[simp] theorem State.memWrite_pc (s : State) (addr : Word) (v : Byte) : (s.memWrite addr v).pc = s.pc := rfl

/-! ### Reading memory looks at `mem` alone -/

@[simp] theorem State.setA_memRead (s : State) (v : Byte) (addr : Word) : (s.setA v).memRead addr = s.memRead addr := rfl
@[simp] theorem State.setB_memRead (s : State) (v : Byte) (addr : Word) : (s.setB v).memRead addr = s.memRead addr := rfl
@[simp] theorem State.setC_memRead (s : State) (v : Byte) (addr : Word) : (s.setC v).memRead addr = s.memRead addr := rfl
@[simp] theorem State.setD_memRead (s : State) (v : Byte) (addr : Word) : (s.setD v).memRead addr = s.memRead addr := rfl
@[simp] theorem State.setE_memRead (s : State) (v : Byte) (addr : Word) : (s.setE v).memRead addr = s.memRead addr := rfl
@[simp] theorem State.setH_memRead (s : State) (v : Byte) (addr : Word) : (s.setH v).memRead addr = s.memRead addr := rfl
@[simp] theorem State.setL_memRead (s : State) (v : Byte) (addr : Word) : (s.setL v).memRead addr = s.memRead addr := rfl
@[simp] theorem State.setFlags_memRead (s : State) (v : Flags) (addr : Word) : (s.setFlags v).memRead addr = s.memRead addr := rfl
@[simp] theorem State.setSp_memRead (s : State) (v : Word) (addr : Word) : (s.setSp v).memRead addr = s.memRead addr := rfl
@[simp] theorem State.setPc_memRead (s : State) (v : Word) (addr : Word) : (s.setPc v).memRead addr = s.memRead addr := rfl

/-! ### The pair setters -/

@[simp] theorem State.setBc_a (s : State) (v : Word) : (s.setBc v).a = s.a := rfl
@[simp] theorem State.setBc_b (s : State) (v : Word) : (s.setBc v).b = hiByte v := rfl
@[simp] theorem State.setBc_c (s : State) (v : Word) : (s.setBc v).c = loByte v := rfl
@[simp] theorem State.setBc_d (s : State) (v : Word) : (s.setBc v).d = s.d := rfl
@[simp] theorem State.setBc_e (s : State) (v : Word) : (s.setBc v).e = s.e := rfl
@[simp] theorem State.setBc_h (s : State) (v : Word) : (s.setBc v).h = s.h := rfl
@[simp] theorem State.setBc_l (s : State) (v : Word) : (s.setBc v).l = s.l := rfl
@[simp] theorem State.setBc_flags (s : State) (v : Word) : (s.setBc v).flags = s.flags := rfl
@[simp] theorem State.setBc_sp (s : State) (v : Word) : (s.setBc v).sp = s.sp := rfl
@[simp] theorem State.setBc_pc (s : State) (v : Word) : (s.setBc v).pc = s.pc := rfl
@[simp] theorem State.setBc_mem (s : State) (v : Word) : (s.setBc v).mem = s.mem := rfl
@[simp] theorem State.setBc_memRead (s : State) (v : Word) (addr : Word) : (s.setBc v).memRead addr = s.memRead addr := rfl
@[simp] theorem State.setDe_a (s : State) (v : Word) : (s.setDe v).a = s.a := rfl
@[simp] theorem State.setDe_b (s : State) (v : Word) : (s.setDe v).b = s.b := rfl
@[simp] theorem State.setDe_c (s : State) (v : Word) : (s.setDe v).c = s.c := rfl
@[simp] theorem State.setDe_d (s : State) (v : Word) : (s.setDe v).d = hiByte v := rfl
@[simp] theorem State.setDe_e (s : State) (v : Word) : (s.setDe v).e = loByte v := rfl
@[simp] theorem State.setDe_h (s : State) (v : Word) : (s.setDe v).h = s.h := rfl
@[simp] theorem State.setDe_l (s : State) (v : Word) : (s.setDe v).l = s.l := rfl
@[simp] theorem State.setDe_flags (s : State) (v : Word) : (s.setDe v).flags = s.flags := rfl
@[simp] theorem State.setDe_sp (s : State) (v : Word) : (s.setDe v).sp = s.sp := rfl
@[simp] theorem State.setDe_pc (s : State) (v : Word) : (s.setDe v).pc = s.pc := rfl
@[simp] theorem State.setDe_mem (s : State) (v : Word) : (s.setDe v).mem = s.mem := rfl
@[simp] theorem State.setDe_memRead (s : State) (v : Word) (addr : Word) : (s.setDe v).memRead addr = s.memRead addr := rfl
@[simp] theorem State.setHl_a (s : State) (v : Word) : (s.setHl v).a = s.a := rfl
@[simp] theorem State.setHl_b (s : State) (v : Word) : (s.setHl v).b = s.b := rfl
@[simp] theorem State.setHl_c (s : State) (v : Word) : (s.setHl v).c = s.c := rfl
@[simp] theorem State.setHl_d (s : State) (v : Word) : (s.setHl v).d = s.d := rfl
@[simp] theorem State.setHl_e (s : State) (v : Word) : (s.setHl v).e = s.e := rfl
@[simp] theorem State.setHl_h (s : State) (v : Word) : (s.setHl v).h = hiByte v := rfl
@[simp] theorem State.setHl_l (s : State) (v : Word) : (s.setHl v).l = loByte v := rfl
@[simp] theorem State.setHl_flags (s : State) (v : Word) : (s.setHl v).flags = s.flags := rfl
@[simp] theorem State.setHl_sp (s : State) (v : Word) : (s.setHl v).sp = s.sp := rfl
@[simp] theorem State.setHl_pc (s : State) (v : Word) : (s.setHl v).pc = s.pc := rfl
@[simp] theorem State.setHl_mem (s : State) (v : Word) : (s.setHl v).mem = s.mem := rfl
@[simp] theorem State.setHl_memRead (s : State) (v : Word) (addr : Word) : (s.setHl v).memRead addr = s.memRead addr := rfl
@[simp] theorem State.setAf_a (s : State) (v : Word) : (s.setAf v).a = hiByte v := rfl
@[simp] theorem State.setAf_b (s : State) (v : Word) : (s.setAf v).b = s.b := rfl
@[simp] theorem State.setAf_c (s : State) (v : Word) : (s.setAf v).c = s.c := rfl
@[simp] theorem State.setAf_d (s : State) (v : Word) : (s.setAf v).d = s.d := rfl
@[simp] theorem State.setAf_e (s : State) (v : Word) : (s.setAf v).e = s.e := rfl
@[simp] theorem State.setAf_h (s : State) (v : Word) : (s.setAf v).h = s.h := rfl
@[simp] theorem State.setAf_l (s : State) (v : Word) : (s.setAf v).l = s.l := rfl
@[simp] theorem State.setAf_flags (s : State) (v : Word) : (s.setAf v).flags = Flags.ofByte (loByte v) := rfl
@[simp] theorem State.setAf_sp (s : State) (v : Word) : (s.setAf v).sp = s.sp := rfl
@[simp] theorem State.setAf_pc (s : State) (v : Word) : (s.setAf v).pc = s.pc := rfl
@[simp] theorem State.setAf_mem (s : State) (v : Word) : (s.setAf v).mem = s.mem := rfl

end Sys2Proof.Machine
end

