-- ==== Sys2Proof/Laws/Exec.lean ====
section
/-! SUPPORT. `exec` by families: what it answers for a form, so that a proof about a family needs no case per row. -/

namespace Sys2Proof.Machine

/-- The outcome of an instruction given as family and operands: the shared operation of the family, or the fault. -/
def runForm (f : Form) (s : State) : Result :=
  match f with
  | .nop => .next (noOperation s)
  | .ld dst src => if dst = .mhl ∧ src = .mhl then stopWith .halt s else .next (copyR8 dst src s)
  | .ldImm dst n => .next (loadImm8 dst n s)
  | .ldIndA m => .next (storeAInd m s)
  | .ldAInd m => .next (loadAInd m s)
  | .ldAAbs n => .next (loadA n s)
  | .ldAbsA n => .next (storeA n s)
  | .ldhAC => .next (loadAIoC s)
  | .ldhCA => .next (storeAIoC s)
  | .ldhAImm n => .next (loadAIo n s)
  | .ldhImmA n => .next (storeAIo n s)
  | .ldPair p n => .next (loadPair p n s)
  | .ldAbsSp n => .next (storeSp n s)
  | .ldSpHl => .next (copyHlToSp s)
  | .ldHlSpE e => .next (loadHlSpE e s)
  | .push p => .next (pushPair p s)
  | .pop p => .next (popPair p s)
  | .alu op src => .next (aluR8 op src s)
  | .aluImm op n => .next (aluByte op n s)
  | .inc r => .next (incR8 r s)
  | .dec r => .next (decR8 r s)
  | .cpl => .next (complementA s)
  | .scf => .next (setCarry s)
  | .ccf => .next (complementCarry s)
  | .addHl p => .next (addPairToHl p s)
  | .incPair p => .next (incR16 p s)
  | .decPair p => .next (decR16 p s)
  | .addSp e => .next (addToSp e s)
  | .accRot k => .next (rotateA k s)
  | .rot k r => .next (rotateR8 k r s)
  | .bit b r => .next (testBit b r s)
  | .res b r => .next (resetBit b r s)
  | .set b r => .next (setBit b r s)
  | .jp n => .next (jump n s)
  | .jpCond cc n => .next (jumpIf cc n s)
  | .jpHl => .next (jumpHl s)
  | .jr e => .next (jumpRel e s)
  | .jrCond cc e => .next (jumpRelIf cc e s)
  | .call n => .next (callSub n s)
  | .callCond cc n => .next (callSubIf cc n s)
  | .ret => .next (returnSub s)
  | .retCond cc => .next (returnSubIf cc s)
  | .rst v => .next (restart v s)
  | .stops k => stopWith k s
  | .escape op2 => .next (runPrefixed op2 s)

/-- Every row of the opcode table runs the shared operation of its family. -/
theorem exec_eq_runForm (i : Instr) (s : State) : exec i s = runForm i.form s := by
  cases i <;> rfl

/-- Turning a row into its family and back gives the row. -/
theorem instr_form (i : Instr) : i.form.instr = i := by
  cases i <;> rfl

/-- Turning a form into its row and back gives the form, but for the slot of `LD (HL),(HL)`, which is HALT's. -/
theorem form_instr (f : Form) (h : f ≠ .ld .mhl .mhl) : f.instr.form = f := by
  cases f with
  | ld dst src => cases dst <;> cases src <;> first | rfl | exact absurd rfl h
  | ldImm r _ => cases r <;> rfl
  | ldIndA m => cases m <;> rfl
  | ldAInd m => cases m <;> rfl
  | ldPair p _ => cases p <;> rfl
  | push p => cases p <;> rfl
  | pop p => cases p <;> rfl
  | alu op r => cases op <;> cases r <;> rfl
  | aluImm op _ => cases op <;> rfl
  | inc r => cases r <;> rfl
  | dec r => cases r <;> rfl
  | addHl p => cases p <;> rfl
  | incPair p => cases p <;> rfl
  | decPair p => cases p <;> rfl
  | accRot k => cases k <;> rfl
  | rot k r => cases k <;> cases r <;> rfl
  | bit b r => cases b <;> cases r <;> rfl
  | res b r => cases b <;> cases r <;> rfl
  | set b r => cases b <;> cases r <;> rfl
  | jpCond cc _ => cases cc <;> rfl
  | jrCond cc _ => cases cc <;> rfl
  | callCond cc _ => cases cc <;> rfl
  | retCond cc => cases cc <;> rfl
  | rst v => cases v <;> rfl
  | stops k => cases k <;> rfl
  | _ => rfl

/-- What `exec` answers for a family with its operands. -/
theorem exec_instr (f : Form) (s : State) : exec f.instr s = runForm f s := by
  by_cases h : f = .ld .mhl .mhl
  · subst h; rfl
  · rw [exec_eq_runForm, form_instr f h]

end Sys2Proof.Machine
end

