-- ==== Sys2Proof/Laws/Ops.lean ====
section
/-! SUPPORT. What each shared operation of Ops.lean and Operands.lean does, so that no proof unfolds it. -/

namespace Sys2Proof.Machine

/-! ### A register operand -/

@[simp] theorem State.writeR8_sp (s : State) (r : R8) (v : Byte) : (s.writeR8 r v).sp = s.sp := by cases r <;> rfl
@[simp] theorem State.writeR8_pc (s : State) (r : R8) (v : Byte) : (s.writeR8 r v).pc = s.pc := by cases r <;> rfl
@[simp] theorem State.writeR8_flags (s : State) (r : R8) (v : Byte) : (s.writeR8 r v).flags = s.flags := by cases r <;> rfl

/-- Writing a register operand writes memory for (HL) alone. -/
theorem State.writeR8_mem (s : State) (r : R8) (v : Byte) :
    (s.writeR8 r v).mem = if r = .mhl then (s.memWrite s.hl v).mem else s.mem := by cases r <;> rfl

/-- Writing one register leaves the others, and writing (HL) leaves them all. -/
theorem State.readR8_writeR8_other (s : State) {r x : R8} (v : Byte) (hr : r ≠ .mhl) (h : r ≠ x) :
    (s.writeR8 x v).readR8 r = s.readR8 r := by
  cases r <;> cases x <;> first | rfl | exact absurd rfl h | exact absurd rfl hr

/-- A register holds what is written to it. -/
theorem State.readR8_writeR8_same (s : State) {x : R8} (v : Byte) (h : x ≠ .mhl) : (s.writeR8 x v).readR8 x = v := by
  cases x <;> first | rfl | exact absurd rfl h

/-- Reading a register does not depend on flags, SP or PC. -/
@[simp] theorem State.readR8_setFlags (s : State) (r : R8) (f : Flags) : (s.setFlags f).readR8 r = s.readR8 r := by
  cases r <;> rfl

/-! ### Pairs -/

@[simp] theorem State.setBc_bc (s : State) (v : Word) : (s.setBc v).bc = v := by simp [State.setBc, State.bc]
@[simp] theorem State.setDe_de (s : State) (v : Word) : (s.setDe v).de = v := by simp [State.setDe, State.de]
@[simp] theorem State.setHl_hl (s : State) (v : Word) : (s.setHl v).hl = v := by simp [State.setHl, State.hl]

@[simp] theorem State.writeR16_mem (s : State) (p : R16) (v : Word) : (s.writeR16 p v).mem = s.mem := by cases p <;> rfl
@[simp] theorem State.writeR16_pc (s : State) (p : R16) (v : Word) : (s.writeR16 p v).pc = s.pc := by cases p <;> rfl
@[simp] theorem State.writeR16_a (s : State) (p : R16) (v : Word) : (s.writeR16 p v).a = s.a := by cases p <;> rfl
@[simp] theorem State.writeR16_flags (s : State) (p : R16) (v : Word) : (s.writeR16 p v).flags = s.flags := by cases p <;> rfl

/-- A pair holds what is written to it. -/
@[simp] theorem State.readR16_writeR16_same (s : State) (p : R16) (v : Word) : (s.writeR16 p v).readR16 p = v := by
  cases p <;> simp [State.writeR16, State.readR16]

/-- Writing one pair leaves the others. -/
theorem State.readR16_writeR16_other (s : State) {p q : R16} (v : Word) (h : q ≠ p) :
    (s.writeR16 p v).readR16 q = s.readR16 q := by
  cases p <;> cases q <;> first | rfl | exact absurd rfl h

@[simp] theorem State.writeR16Stk_mem (s : State) (p : R16Stk) (v : Word) : (s.writeR16Stk p v).mem = s.mem := by
  cases p <;> rfl

@[simp] theorem State.stepR16Mem_mem (s : State) (m : R16Mem) (addr : Word) : (s.stepR16Mem m addr).mem = s.mem := by
  cases m <;> rfl

/-! ### The stack -/

/-- `Push16` as one update: SP two lower, the high byte at SP-1, the low byte at SP-2. -/
theorem State.push16_eq (s : State) (v : Word) :
    s.push16 v = ((s.memWrite (s.sp - 1#16) (hiByte v)).memWrite (s.sp - 2#16) (loByte v)).setSp (s.sp - 2#16) := by
  simp only [State.push16, State.memWrite, State.setSp, word_sub_one_sub_one]

/-- `Pop16` as one update: the word at SP, low byte first, and SP two higher. -/
theorem State.pop16_eq (s : State) :
    s.pop16 = (wordOf (s.memRead (s.sp + 1#16)) (s.memRead s.sp), s.setSp (s.sp + 2#16)) := by
  simp only [State.pop16, State.setSp, word_add_one_add_one]
  rfl

@[simp] theorem State.push16_a (s : State) (v : Word) : (s.push16 v).a = s.a := by simp only [State.push16_eq, State.setSp_a, State.memWrite_a]
@[simp] theorem State.push16_b (s : State) (v : Word) : (s.push16 v).b = s.b := by simp only [State.push16_eq, State.setSp_b, State.memWrite_b]
@[simp] theorem State.push16_c (s : State) (v : Word) : (s.push16 v).c = s.c := by simp only [State.push16_eq, State.setSp_c, State.memWrite_c]
@[simp] theorem State.push16_d (s : State) (v : Word) : (s.push16 v).d = s.d := by simp only [State.push16_eq, State.setSp_d, State.memWrite_d]
@[simp] theorem State.push16_e (s : State) (v : Word) : (s.push16 v).e = s.e := by simp only [State.push16_eq, State.setSp_e, State.memWrite_e]
@[simp] theorem State.push16_h (s : State) (v : Word) : (s.push16 v).h = s.h := by simp only [State.push16_eq, State.setSp_h, State.memWrite_h]
@[simp] theorem State.push16_l (s : State) (v : Word) : (s.push16 v).l = s.l := by simp only [State.push16_eq, State.setSp_l, State.memWrite_l]
@[simp] theorem State.push16_flags (s : State) (v : Word) : (s.push16 v).flags = s.flags := by simp only [State.push16_eq, State.setSp_flags, State.memWrite_flags]
@[simp] theorem State.push16_pc (s : State) (v : Word) : (s.push16 v).pc = s.pc := by simp only [State.push16_eq, State.setSp_pc, State.memWrite_pc]
@[simp] theorem State.push16_sp (s : State) (v : Word) : (s.push16 v).sp = s.sp - 2#16 := by rw [State.push16_eq, State.setSp_sp]

/-- A push keeps every register operand but, where the stored bytes meet it, (HL). -/
theorem State.readR8_push16 (s : State) (v : Word) {r : R8} (h : r ≠ .mhl) : (s.push16 v).readR8 r = s.readR8 r := by
  cases r <;> first | exact absurd rfl h | simp [State.readR8]

/-- The byte at the lower address after a push. -/
theorem State.memRead_push16_low (s : State) (v : Word) : (s.push16 v).memRead (s.sp - 2#16) = loByte v := by
  rw [State.push16_eq]
  exact State.memRead_memWrite_same _ _ _

/-- The byte at the higher address after a push. -/
theorem State.memRead_push16_high (s : State) (v : Word) : (s.push16 v).memRead (s.sp - 1#16) = hiByte v := by
  rw [State.push16_eq]
  exact (State.memRead_memWrite_other _ _ (by bv_omega)).trans (State.memRead_memWrite_same _ _ _)

/-- A push leaves every other byte. -/
theorem State.memRead_push16_other (s : State) (v : Word) {addr : Word} (h1 : addr ≠ s.sp - 1#16) (h2 : addr ≠ s.sp - 2#16) :
    (s.push16 v).memRead addr = s.memRead addr := by
  rw [State.push16_eq]
  exact (State.memRead_memWrite_other _ _ h2).trans (State.memRead_memWrite_other _ _ h1)

/-- Popping what was pushed gives it back, and SP its value before the push. -/
theorem State.pop16_push16 (s : State) (v : Word) : (s.push16 v).pop16 = (v, (s.push16 v).setSp s.sp) := by
  have e : s.sp - 2#16 + 2#16 = s.sp := by bv_omega
  rw [State.pop16_eq, State.push16_sp, word_add_one_sub_two, State.memRead_push16_high, State.memRead_push16_low,
    wordOf_hiByte_loByte, e]

/-! ### Fetching -/

/-- `n` fetches read the `n` bytes from PC on and leave PC past them. -/
theorem State.fetchBytes_eq (n : Nat) (s : State) :
    State.fetchBytes n s =
      ((List.range n).map fun k => s.memRead (s.pc + BitVec.ofNat 16 k), s.setPc (s.pc + BitVec.ofNat 16 n)) := by
  induction n generalizing s with
  | zero => simp [State.fetchBytes, State.setPc]
  | succ n ih =>
    have assoc (k : Nat) : s.pc + 1#16 + BitVec.ofNat 16 k = s.pc + BitVec.ofNat 16 (k + 1) := by
      rw [BitVec.ofNat_add, BitVec.add_assoc, BitVec.add_comm 1#16]
    simp only [State.fetchBytes, State.fetch8, ih, State.setPc_pc, assoc, List.range_succ_eq_map, List.map_cons, List.map_map]
    simp [State.setPc, State.memRead, Function.comp_def]

/-- The bytes of the instruction at PC: as many as its first byte announces. -/
def State.instrBytes (s : State) : List Byte :=
  (List.range (instrLength (s.memRead s.pc))).map fun k => s.memRead (s.pc + BitVec.ofNat 16 k)

/-- Fetching an instruction reads its bytes and leaves PC past them. -/
theorem State.fetchInstrBytes_eq (s : State) :
    s.fetchInstrBytes = (s.instrBytes, s.setPc (s.pc + BitVec.ofNat 16 (instrLength (s.memRead s.pc)))) := by
  have h := State.fetchBytes_eq (instrLength (s.memRead s.pc)) s
  obtain ⟨n, hn⟩ : ∃ n, instrLength (s.memRead s.pc) = n + 1 := ⟨_, (Nat.succ_pred_eq_of_pos (instrLength_pos _)).symm⟩
  rw [State.instrBytes, ← h]
  simp only [State.fetchInstrBytes, State.fetch8, hn, Nat.add_sub_cancel, State.fetchBytes]

/-- Every fetch reads a whole, well-formed instruction, whatever bytes stand at PC. -/
theorem State.fetchDecode_eq (s : State) :
    ∃ i, WellFormed i ∧ encode i = s.instrBytes ∧
      s.fetchDecode = (.instr i [], s.setPc (s.pc + BitVec.ofNat 16 (instrLength (s.memRead s.pc)))) := by
  obtain ⟨n, hn⟩ : ∃ n, instrLength (s.memRead s.pc) = n + 1 := ⟨_, (Nat.succ_pred_eq_of_pos (instrLength_pos _)).symm⟩
  have hb : s.instrBytes = s.memRead s.pc :: (List.range n).map fun k => s.memRead (s.pc + BitVec.ofNat 16 (k + 1)) := by
    simp [State.instrBytes, hn, List.range_succ_eq_map, Function.comp_def]
  obtain ⟨i, hd, he, hw⟩ := decode_complete (op := s.memRead s.pc)
    (rest := (List.range n).map fun k => s.memRead (s.pc + BitVec.ofNat 16 (k + 1))) (by simp [hn])
  refine ⟨i, hw, he.trans hb.symm, ?_⟩
  rw [State.fetchDecode, State.fetchInstrBytes_eq, hb]
  simp only [hd]

end Sys2Proof.Machine
end

