-- ==== Sys2Proof/Laws/PerInstr.lean ====
section
/-! SUPPORT. Claims about every instruction as syntax, one lemma per constructor. -/

namespace Sys2Proof.Laws

/-- The first byte of an instruction's encoding announces how many bytes the encoding has (30_encoding.md R60). -/
def EncodedLength.Statement (i : Instr) : Prop := ∃ op rest, encode i = op :: rest ∧ instrLength op = (encode i).length

theorem EncodedLength.nop : EncodedLength.Statement (.nop) := ⟨_, _, rfl, rfl⟩
theorem EncodedLength.ld_bc_n16 (n16 : Word) : EncodedLength.Statement (.ld_bc_n16 n16) := ⟨_, _, rfl, rfl⟩
theorem EncodedLength.ld_mbc_a : EncodedLength.Statement (.ld_mbc_a) := ⟨_, _, rfl, rfl⟩
theorem EncodedLength.inc_bc : EncodedLength.Statement (.inc_bc) := ⟨_, _, rfl, rfl⟩
theorem EncodedLength.inc_b : EncodedLength.Statement (.inc_b) := ⟨_, _, rfl, rfl⟩
theorem EncodedLength.dec_b : EncodedLength.Statement (.dec_b) := ⟨_, _, rfl, rfl⟩
theorem EncodedLength.ld_b_n8 (n8 : Byte) : EncodedLength.Statement (.ld_b_n8 n8) := ⟨_, _, rfl, rfl⟩
theorem EncodedLength.rlca : EncodedLength.Statement (.rlca) := ⟨_, _, rfl, rfl⟩
theorem EncodedLength.ld_mn16_sp (n16 : Word) : EncodedLength.Statement (.ld_mn16_sp n16) := ⟨_, _, rfl, rfl⟩
theorem EncodedLength.add_hl_bc : EncodedLength.Statement (.add_hl_bc) := ⟨_, _, rfl, rfl⟩
theorem EncodedLength.ld_a_mbc : EncodedLength.Statement (.ld_a_mbc) := ⟨_, _, rfl, rfl⟩
theorem EncodedLength.dec_bc : EncodedLength.Statement (.dec_bc) := ⟨_, _, rfl, rfl⟩
theorem EncodedLength.inc_c : EncodedLength.Statement (.inc_c) := ⟨_, _, rfl, rfl⟩
theorem EncodedLength.dec_c : EncodedLength.Statement (.dec_c) := ⟨_, _, rfl, rfl⟩
theorem EncodedLength.ld_c_n8 (n8 : Byte) : EncodedLength.Statement (.ld_c_n8 n8) := ⟨_, _, rfl, rfl⟩
theorem EncodedLength.rrca : EncodedLength.Statement (.rrca) := ⟨_, _, rfl, rfl⟩
theorem EncodedLength.stop : EncodedLength.Statement (.stop) := ⟨_, _, rfl, rfl⟩
theorem EncodedLength.ld_de_n16 (n16 : Word) : EncodedLength.Statement (.ld_de_n16 n16) := ⟨_, _, rfl, rfl⟩
theorem EncodedLength.ld_mde_a : EncodedLength.Statement (.ld_mde_a) := ⟨_, _, rfl, rfl⟩
theorem EncodedLength.inc_de : EncodedLength.Statement (.inc_de) := ⟨_, _, rfl, rfl⟩
theorem EncodedLength.inc_d : EncodedLength.Statement (.inc_d) := ⟨_, _, rfl, rfl⟩
theorem EncodedLength.dec_d : EncodedLength.Statement (.dec_d) := ⟨_, _, rfl, rfl⟩
theorem EncodedLength.ld_d_n8 (n8 : Byte) : EncodedLength.Statement (.ld_d_n8 n8) := ⟨_, _, rfl, rfl⟩
theorem EncodedLength.rla : EncodedLength.Statement (.rla) := ⟨_, _, rfl, rfl⟩
theorem EncodedLength.jr_e8 (e8 : Byte) : EncodedLength.Statement (.jr_e8 e8) := ⟨_, _, rfl, rfl⟩
theorem EncodedLength.add_hl_de : EncodedLength.Statement (.add_hl_de) := ⟨_, _, rfl, rfl⟩
theorem EncodedLength.ld_a_mde : EncodedLength.Statement (.ld_a_mde) := ⟨_, _, rfl, rfl⟩
theorem EncodedLength.dec_de : EncodedLength.Statement (.dec_de) := ⟨_, _, rfl, rfl⟩
theorem EncodedLength.inc_e : EncodedLength.Statement (.inc_e) := ⟨_, _, rfl, rfl⟩
theorem EncodedLength.dec_e : EncodedLength.Statement (.dec_e) := ⟨_, _, rfl, rfl⟩
theorem EncodedLength.ld_e_n8 (n8 : Byte) : EncodedLength.Statement (.ld_e_n8 n8) := ⟨_, _, rfl, rfl⟩
theorem EncodedLength.rra : EncodedLength.Statement (.rra) := ⟨_, _, rfl, rfl⟩
theorem EncodedLength.jr_nz_e8 (e8 : Byte) : EncodedLength.Statement (.jr_nz_e8 e8) := ⟨_, _, rfl, rfl⟩
theorem EncodedLength.ld_hl_n16 (n16 : Word) : EncodedLength.Statement (.ld_hl_n16 n16) := ⟨_, _, rfl, rfl⟩
theorem EncodedLength.ld_mhlInc_a : EncodedLength.Statement (.ld_mhlInc_a) := ⟨_, _, rfl, rfl⟩
theorem EncodedLength.inc_hl : EncodedLength.Statement (.inc_hl) := ⟨_, _, rfl, rfl⟩
theorem EncodedLength.inc_h : EncodedLength.Statement (.inc_h) := ⟨_, _, rfl, rfl⟩
theorem EncodedLength.dec_h : EncodedLength.Statement (.dec_h) := ⟨_, _, rfl, rfl⟩
theorem EncodedLength.ld_h_n8 (n8 : Byte) : EncodedLength.Statement (.ld_h_n8 n8) := ⟨_, _, rfl, rfl⟩
theorem EncodedLength.daa : EncodedLength.Statement (.daa) := ⟨_, _, rfl, rfl⟩
theorem EncodedLength.jr_z_e8 (e8 : Byte) : EncodedLength.Statement (.jr_z_e8 e8) := ⟨_, _, rfl, rfl⟩
theorem EncodedLength.add_hl_hl : EncodedLength.Statement (.add_hl_hl) := ⟨_, _, rfl, rfl⟩
theorem EncodedLength.ld_a_mhlInc : EncodedLength.Statement (.ld_a_mhlInc) := ⟨_, _, rfl, rfl⟩
theorem EncodedLength.dec_hl : EncodedLength.Statement (.dec_hl) := ⟨_, _, rfl, rfl⟩
theorem EncodedLength.inc_l : EncodedLength.Statement (.inc_l) := ⟨_, _, rfl, rfl⟩
theorem EncodedLength.dec_l : EncodedLength.Statement (.dec_l) := ⟨_, _, rfl, rfl⟩
theorem EncodedLength.ld_l_n8 (n8 : Byte) : EncodedLength.Statement (.ld_l_n8 n8) := ⟨_, _, rfl, rfl⟩
theorem EncodedLength.cpl : EncodedLength.Statement (.cpl) := ⟨_, _, rfl, rfl⟩
theorem EncodedLength.jr_nc_e8 (e8 : Byte) : EncodedLength.Statement (.jr_nc_e8 e8) := ⟨_, _, rfl, rfl⟩
theorem EncodedLength.ld_sp_n16 (n16 : Word) : EncodedLength.Statement (.ld_sp_n16 n16) := ⟨_, _, rfl, rfl⟩
theorem EncodedLength.ld_mhlDec_a : EncodedLength.Statement (.ld_mhlDec_a) := ⟨_, _, rfl, rfl⟩
theorem EncodedLength.inc_sp : EncodedLength.Statement (.inc_sp) := ⟨_, _, rfl, rfl⟩
theorem EncodedLength.inc_mhl : EncodedLength.Statement (.inc_mhl) := ⟨_, _, rfl, rfl⟩
theorem EncodedLength.dec_mhl : EncodedLength.Statement (.dec_mhl) := ⟨_, _, rfl, rfl⟩
theorem EncodedLength.ld_mhl_n8 (n8 : Byte) : EncodedLength.Statement (.ld_mhl_n8 n8) := ⟨_, _, rfl, rfl⟩
theorem EncodedLength.scf : EncodedLength.Statement (.scf) := ⟨_, _, rfl, rfl⟩
theorem EncodedLength.jr_c_e8 (e8 : Byte) : EncodedLength.Statement (.jr_c_e8 e8) := ⟨_, _, rfl, rfl⟩
theorem EncodedLength.add_hl_sp : EncodedLength.Statement (.add_hl_sp) := ⟨_, _, rfl, rfl⟩
theorem EncodedLength.ld_a_mhlDec : EncodedLength.Statement (.ld_a_mhlDec) := ⟨_, _, rfl, rfl⟩
theorem EncodedLength.dec_sp : EncodedLength.Statement (.dec_sp) := ⟨_, _, rfl, rfl⟩
theorem EncodedLength.inc_a : EncodedLength.Statement (.inc_a) := ⟨_, _, rfl, rfl⟩
theorem EncodedLength.dec_a : EncodedLength.Statement (.dec_a) := ⟨_, _, rfl, rfl⟩
theorem EncodedLength.ld_a_n8 (n8 : Byte) : EncodedLength.Statement (.ld_a_n8 n8) := ⟨_, _, rfl, rfl⟩
theorem EncodedLength.ccf : EncodedLength.Statement (.ccf) := ⟨_, _, rfl, rfl⟩
theorem EncodedLength.ld_b_b : EncodedLength.Statement (.ld_b_b) := ⟨_, _, rfl, rfl⟩
theorem EncodedLength.ld_b_c : EncodedLength.Statement (.ld_b_c) := ⟨_, _, rfl, rfl⟩
theorem EncodedLength.ld_b_d : EncodedLength.Statement (.ld_b_d) := ⟨_, _, rfl, rfl⟩
theorem EncodedLength.ld_b_e : EncodedLength.Statement (.ld_b_e) := ⟨_, _, rfl, rfl⟩
theorem EncodedLength.ld_b_h : EncodedLength.Statement (.ld_b_h) := ⟨_, _, rfl, rfl⟩
theorem EncodedLength.ld_b_l : EncodedLength.Statement (.ld_b_l) := ⟨_, _, rfl, rfl⟩
theorem EncodedLength.ld_b_mhl : EncodedLength.Statement (.ld_b_mhl) := ⟨_, _, rfl, rfl⟩
theorem EncodedLength.ld_b_a : EncodedLength.Statement (.ld_b_a) := ⟨_, _, rfl, rfl⟩
theorem EncodedLength.ld_c_b : EncodedLength.Statement (.ld_c_b) := ⟨_, _, rfl, rfl⟩
theorem EncodedLength.ld_c_c : EncodedLength.Statement (.ld_c_c) := ⟨_, _, rfl, rfl⟩
theorem EncodedLength.ld_c_d : EncodedLength.Statement (.ld_c_d) := ⟨_, _, rfl, rfl⟩
theorem EncodedLength.ld_c_e : EncodedLength.Statement (.ld_c_e) := ⟨_, _, rfl, rfl⟩
theorem EncodedLength.ld_c_h : EncodedLength.Statement (.ld_c_h) := ⟨_, _, rfl, rfl⟩
theorem EncodedLength.ld_c_l : EncodedLength.Statement (.ld_c_l) := ⟨_, _, rfl, rfl⟩
theorem EncodedLength.ld_c_mhl : EncodedLength.Statement (.ld_c_mhl) := ⟨_, _, rfl, rfl⟩
theorem EncodedLength.ld_c_a : EncodedLength.Statement (.ld_c_a) := ⟨_, _, rfl, rfl⟩
theorem EncodedLength.ld_d_b : EncodedLength.Statement (.ld_d_b) := ⟨_, _, rfl, rfl⟩
theorem EncodedLength.ld_d_c : EncodedLength.Statement (.ld_d_c) := ⟨_, _, rfl, rfl⟩
theorem EncodedLength.ld_d_d : EncodedLength.Statement (.ld_d_d) := ⟨_, _, rfl, rfl⟩
theorem EncodedLength.ld_d_e : EncodedLength.Statement (.ld_d_e) := ⟨_, _, rfl, rfl⟩
theorem EncodedLength.ld_d_h : EncodedLength.Statement (.ld_d_h) := ⟨_, _, rfl, rfl⟩
theorem EncodedLength.ld_d_l : EncodedLength.Statement (.ld_d_l) := ⟨_, _, rfl, rfl⟩
theorem EncodedLength.ld_d_mhl : EncodedLength.Statement (.ld_d_mhl) := ⟨_, _, rfl, rfl⟩
theorem EncodedLength.ld_d_a : EncodedLength.Statement (.ld_d_a) := ⟨_, _, rfl, rfl⟩
theorem EncodedLength.ld_e_b : EncodedLength.Statement (.ld_e_b) := ⟨_, _, rfl, rfl⟩
theorem EncodedLength.ld_e_c : EncodedLength.Statement (.ld_e_c) := ⟨_, _, rfl, rfl⟩
theorem EncodedLength.ld_e_d : EncodedLength.Statement (.ld_e_d) := ⟨_, _, rfl, rfl⟩
theorem EncodedLength.ld_e_e : EncodedLength.Statement (.ld_e_e) := ⟨_, _, rfl, rfl⟩
theorem EncodedLength.ld_e_h : EncodedLength.Statement (.ld_e_h) := ⟨_, _, rfl, rfl⟩
theorem EncodedLength.ld_e_l : EncodedLength.Statement (.ld_e_l) := ⟨_, _, rfl, rfl⟩
theorem EncodedLength.ld_e_mhl : EncodedLength.Statement (.ld_e_mhl) := ⟨_, _, rfl, rfl⟩
theorem EncodedLength.ld_e_a : EncodedLength.Statement (.ld_e_a) := ⟨_, _, rfl, rfl⟩
theorem EncodedLength.ld_h_b : EncodedLength.Statement (.ld_h_b) := ⟨_, _, rfl, rfl⟩
theorem EncodedLength.ld_h_c : EncodedLength.Statement (.ld_h_c) := ⟨_, _, rfl, rfl⟩
theorem EncodedLength.ld_h_d : EncodedLength.Statement (.ld_h_d) := ⟨_, _, rfl, rfl⟩
theorem EncodedLength.ld_h_e : EncodedLength.Statement (.ld_h_e) := ⟨_, _, rfl, rfl⟩
theorem EncodedLength.ld_h_h : EncodedLength.Statement (.ld_h_h) := ⟨_, _, rfl, rfl⟩
theorem EncodedLength.ld_h_l : EncodedLength.Statement (.ld_h_l) := ⟨_, _, rfl, rfl⟩
theorem EncodedLength.ld_h_mhl : EncodedLength.Statement (.ld_h_mhl) := ⟨_, _, rfl, rfl⟩
theorem EncodedLength.ld_h_a : EncodedLength.Statement (.ld_h_a) := ⟨_, _, rfl, rfl⟩
theorem EncodedLength.ld_l_b : EncodedLength.Statement (.ld_l_b) := ⟨_, _, rfl, rfl⟩
theorem EncodedLength.ld_l_c : EncodedLength.Statement (.ld_l_c) := ⟨_, _, rfl, rfl⟩
theorem EncodedLength.ld_l_d : EncodedLength.Statement (.ld_l_d) := ⟨_, _, rfl, rfl⟩
theorem EncodedLength.ld_l_e : EncodedLength.Statement (.ld_l_e) := ⟨_, _, rfl, rfl⟩
theorem EncodedLength.ld_l_h : EncodedLength.Statement (.ld_l_h) := ⟨_, _, rfl, rfl⟩
theorem EncodedLength.ld_l_l : EncodedLength.Statement (.ld_l_l) := ⟨_, _, rfl, rfl⟩
theorem EncodedLength.ld_l_mhl : EncodedLength.Statement (.ld_l_mhl) := ⟨_, _, rfl, rfl⟩
theorem EncodedLength.ld_l_a : EncodedLength.Statement (.ld_l_a) := ⟨_, _, rfl, rfl⟩
theorem EncodedLength.ld_mhl_b : EncodedLength.Statement (.ld_mhl_b) := ⟨_, _, rfl, rfl⟩
theorem EncodedLength.ld_mhl_c : EncodedLength.Statement (.ld_mhl_c) := ⟨_, _, rfl, rfl⟩
theorem EncodedLength.ld_mhl_d : EncodedLength.Statement (.ld_mhl_d) := ⟨_, _, rfl, rfl⟩
theorem EncodedLength.ld_mhl_e : EncodedLength.Statement (.ld_mhl_e) := ⟨_, _, rfl, rfl⟩
theorem EncodedLength.ld_mhl_h : EncodedLength.Statement (.ld_mhl_h) := ⟨_, _, rfl, rfl⟩
theorem EncodedLength.ld_mhl_l : EncodedLength.Statement (.ld_mhl_l) := ⟨_, _, rfl, rfl⟩
theorem EncodedLength.halt : EncodedLength.Statement (.halt) := ⟨_, _, rfl, rfl⟩
theorem EncodedLength.ld_mhl_a : EncodedLength.Statement (.ld_mhl_a) := ⟨_, _, rfl, rfl⟩
theorem EncodedLength.ld_a_b : EncodedLength.Statement (.ld_a_b) := ⟨_, _, rfl, rfl⟩
theorem EncodedLength.ld_a_c : EncodedLength.Statement (.ld_a_c) := ⟨_, _, rfl, rfl⟩
theorem EncodedLength.ld_a_d : EncodedLength.Statement (.ld_a_d) := ⟨_, _, rfl, rfl⟩
theorem EncodedLength.ld_a_e : EncodedLength.Statement (.ld_a_e) := ⟨_, _, rfl, rfl⟩
theorem EncodedLength.ld_a_h : EncodedLength.Statement (.ld_a_h) := ⟨_, _, rfl, rfl⟩
theorem EncodedLength.ld_a_l : EncodedLength.Statement (.ld_a_l) := ⟨_, _, rfl, rfl⟩
theorem EncodedLength.ld_a_mhl : EncodedLength.Statement (.ld_a_mhl) := ⟨_, _, rfl, rfl⟩
theorem EncodedLength.ld_a_a : EncodedLength.Statement (.ld_a_a) := ⟨_, _, rfl, rfl⟩
theorem EncodedLength.add_a_b : EncodedLength.Statement (.add_a_b) := ⟨_, _, rfl, rfl⟩
theorem EncodedLength.add_a_c : EncodedLength.Statement (.add_a_c) := ⟨_, _, rfl, rfl⟩
theorem EncodedLength.add_a_d : EncodedLength.Statement (.add_a_d) := ⟨_, _, rfl, rfl⟩
theorem EncodedLength.add_a_e : EncodedLength.Statement (.add_a_e) := ⟨_, _, rfl, rfl⟩
theorem EncodedLength.add_a_h : EncodedLength.Statement (.add_a_h) := ⟨_, _, rfl, rfl⟩
theorem EncodedLength.add_a_l : EncodedLength.Statement (.add_a_l) := ⟨_, _, rfl, rfl⟩
theorem EncodedLength.add_a_mhl : EncodedLength.Statement (.add_a_mhl) := ⟨_, _, rfl, rfl⟩
theorem EncodedLength.add_a_a : EncodedLength.Statement (.add_a_a) := ⟨_, _, rfl, rfl⟩
theorem EncodedLength.adc_a_b : EncodedLength.Statement (.adc_a_b) := ⟨_, _, rfl, rfl⟩
theorem EncodedLength.adc_a_c : EncodedLength.Statement (.adc_a_c) := ⟨_, _, rfl, rfl⟩
theorem EncodedLength.adc_a_d : EncodedLength.Statement (.adc_a_d) := ⟨_, _, rfl, rfl⟩
theorem EncodedLength.adc_a_e : EncodedLength.Statement (.adc_a_e) := ⟨_, _, rfl, rfl⟩
theorem EncodedLength.adc_a_h : EncodedLength.Statement (.adc_a_h) := ⟨_, _, rfl, rfl⟩
theorem EncodedLength.adc_a_l : EncodedLength.Statement (.adc_a_l) := ⟨_, _, rfl, rfl⟩
theorem EncodedLength.adc_a_mhl : EncodedLength.Statement (.adc_a_mhl) := ⟨_, _, rfl, rfl⟩
theorem EncodedLength.adc_a_a : EncodedLength.Statement (.adc_a_a) := ⟨_, _, rfl, rfl⟩
theorem EncodedLength.sub_b : EncodedLength.Statement (.sub_b) := ⟨_, _, rfl, rfl⟩
theorem EncodedLength.sub_c : EncodedLength.Statement (.sub_c) := ⟨_, _, rfl, rfl⟩
theorem EncodedLength.sub_d : EncodedLength.Statement (.sub_d) := ⟨_, _, rfl, rfl⟩
theorem EncodedLength.sub_e : EncodedLength.Statement (.sub_e) := ⟨_, _, rfl, rfl⟩
theorem EncodedLength.sub_h : EncodedLength.Statement (.sub_h) := ⟨_, _, rfl, rfl⟩
theorem EncodedLength.sub_l : EncodedLength.Statement (.sub_l) := ⟨_, _, rfl, rfl⟩
theorem EncodedLength.sub_mhl : EncodedLength.Statement (.sub_mhl) := ⟨_, _, rfl, rfl⟩
theorem EncodedLength.sub_a : EncodedLength.Statement (.sub_a) := ⟨_, _, rfl, rfl⟩
theorem EncodedLength.sbc_a_b : EncodedLength.Statement (.sbc_a_b) := ⟨_, _, rfl, rfl⟩
theorem EncodedLength.sbc_a_c : EncodedLength.Statement (.sbc_a_c) := ⟨_, _, rfl, rfl⟩
theorem EncodedLength.sbc_a_d : EncodedLength.Statement (.sbc_a_d) := ⟨_, _, rfl, rfl⟩
theorem EncodedLength.sbc_a_e : EncodedLength.Statement (.sbc_a_e) := ⟨_, _, rfl, rfl⟩
theorem EncodedLength.sbc_a_h : EncodedLength.Statement (.sbc_a_h) := ⟨_, _, rfl, rfl⟩
theorem EncodedLength.sbc_a_l : EncodedLength.Statement (.sbc_a_l) := ⟨_, _, rfl, rfl⟩
theorem EncodedLength.sbc_a_mhl : EncodedLength.Statement (.sbc_a_mhl) := ⟨_, _, rfl, rfl⟩
theorem EncodedLength.sbc_a_a : EncodedLength.Statement (.sbc_a_a) := ⟨_, _, rfl, rfl⟩
theorem EncodedLength.and_b : EncodedLength.Statement (.and_b) := ⟨_, _, rfl, rfl⟩
theorem EncodedLength.and_c : EncodedLength.Statement (.and_c) := ⟨_, _, rfl, rfl⟩
theorem EncodedLength.and_d : EncodedLength.Statement (.and_d) := ⟨_, _, rfl, rfl⟩
theorem EncodedLength.and_e : EncodedLength.Statement (.and_e) := ⟨_, _, rfl, rfl⟩
theorem EncodedLength.and_h : EncodedLength.Statement (.and_h) := ⟨_, _, rfl, rfl⟩
theorem EncodedLength.and_l : EncodedLength.Statement (.and_l) := ⟨_, _, rfl, rfl⟩
theorem EncodedLength.and_mhl : EncodedLength.Statement (.and_mhl) := ⟨_, _, rfl, rfl⟩
theorem EncodedLength.and_a : EncodedLength.Statement (.and_a) := ⟨_, _, rfl, rfl⟩
theorem EncodedLength.xor_b : EncodedLength.Statement (.xor_b) := ⟨_, _, rfl, rfl⟩
theorem EncodedLength.xor_c : EncodedLength.Statement (.xor_c) := ⟨_, _, rfl, rfl⟩
theorem EncodedLength.xor_d : EncodedLength.Statement (.xor_d) := ⟨_, _, rfl, rfl⟩
theorem EncodedLength.xor_e : EncodedLength.Statement (.xor_e) := ⟨_, _, rfl, rfl⟩
theorem EncodedLength.xor_h : EncodedLength.Statement (.xor_h) := ⟨_, _, rfl, rfl⟩
theorem EncodedLength.xor_l : EncodedLength.Statement (.xor_l) := ⟨_, _, rfl, rfl⟩
theorem EncodedLength.xor_mhl : EncodedLength.Statement (.xor_mhl) := ⟨_, _, rfl, rfl⟩
theorem EncodedLength.xor_a : EncodedLength.Statement (.xor_a) := ⟨_, _, rfl, rfl⟩
theorem EncodedLength.or_b : EncodedLength.Statement (.or_b) := ⟨_, _, rfl, rfl⟩
theorem EncodedLength.or_c : EncodedLength.Statement (.or_c) := ⟨_, _, rfl, rfl⟩
theorem EncodedLength.or_d : EncodedLength.Statement (.or_d) := ⟨_, _, rfl, rfl⟩
theorem EncodedLength.or_e : EncodedLength.Statement (.or_e) := ⟨_, _, rfl, rfl⟩
theorem EncodedLength.or_h : EncodedLength.Statement (.or_h) := ⟨_, _, rfl, rfl⟩
theorem EncodedLength.or_l : EncodedLength.Statement (.or_l) := ⟨_, _, rfl, rfl⟩
theorem EncodedLength.or_mhl : EncodedLength.Statement (.or_mhl) := ⟨_, _, rfl, rfl⟩
theorem EncodedLength.or_a : EncodedLength.Statement (.or_a) := ⟨_, _, rfl, rfl⟩
theorem EncodedLength.cp_b : EncodedLength.Statement (.cp_b) := ⟨_, _, rfl, rfl⟩
theorem EncodedLength.cp_c : EncodedLength.Statement (.cp_c) := ⟨_, _, rfl, rfl⟩
theorem EncodedLength.cp_d : EncodedLength.Statement (.cp_d) := ⟨_, _, rfl, rfl⟩
theorem EncodedLength.cp_e : EncodedLength.Statement (.cp_e) := ⟨_, _, rfl, rfl⟩
theorem EncodedLength.cp_h : EncodedLength.Statement (.cp_h) := ⟨_, _, rfl, rfl⟩
theorem EncodedLength.cp_l : EncodedLength.Statement (.cp_l) := ⟨_, _, rfl, rfl⟩
theorem EncodedLength.cp_mhl : EncodedLength.Statement (.cp_mhl) := ⟨_, _, rfl, rfl⟩
theorem EncodedLength.cp_a : EncodedLength.Statement (.cp_a) := ⟨_, _, rfl, rfl⟩
theorem EncodedLength.ret_nz : EncodedLength.Statement (.ret_nz) := ⟨_, _, rfl, rfl⟩
theorem EncodedLength.pop_bc : EncodedLength.Statement (.pop_bc) := ⟨_, _, rfl, rfl⟩
theorem EncodedLength.jp_nz_n16 (n16 : Word) : EncodedLength.Statement (.jp_nz_n16 n16) := ⟨_, _, rfl, rfl⟩
theorem EncodedLength.jp_n16 (n16 : Word) : EncodedLength.Statement (.jp_n16 n16) := ⟨_, _, rfl, rfl⟩
theorem EncodedLength.call_nz_n16 (n16 : Word) : EncodedLength.Statement (.call_nz_n16 n16) := ⟨_, _, rfl, rfl⟩
theorem EncodedLength.push_bc : EncodedLength.Statement (.push_bc) := ⟨_, _, rfl, rfl⟩
theorem EncodedLength.add_a_n8 (n8 : Byte) : EncodedLength.Statement (.add_a_n8 n8) := ⟨_, _, rfl, rfl⟩
theorem EncodedLength.rst_00 : EncodedLength.Statement (.rst_00) := ⟨_, _, rfl, rfl⟩
theorem EncodedLength.ret_z : EncodedLength.Statement (.ret_z) := ⟨_, _, rfl, rfl⟩
theorem EncodedLength.ret : EncodedLength.Statement (.ret) := ⟨_, _, rfl, rfl⟩
theorem EncodedLength.jp_z_n16 (n16 : Word) : EncodedLength.Statement (.jp_z_n16 n16) := ⟨_, _, rfl, rfl⟩
theorem EncodedLength.escape_cb (op2 : Byte) : EncodedLength.Statement (.escape_cb op2) := ⟨_, _, rfl, rfl⟩
theorem EncodedLength.call_z_n16 (n16 : Word) : EncodedLength.Statement (.call_z_n16 n16) := ⟨_, _, rfl, rfl⟩
theorem EncodedLength.call_n16 (n16 : Word) : EncodedLength.Statement (.call_n16 n16) := ⟨_, _, rfl, rfl⟩
theorem EncodedLength.adc_a_n8 (n8 : Byte) : EncodedLength.Statement (.adc_a_n8 n8) := ⟨_, _, rfl, rfl⟩
theorem EncodedLength.rst_08 : EncodedLength.Statement (.rst_08) := ⟨_, _, rfl, rfl⟩
theorem EncodedLength.ret_nc : EncodedLength.Statement (.ret_nc) := ⟨_, _, rfl, rfl⟩
theorem EncodedLength.pop_de : EncodedLength.Statement (.pop_de) := ⟨_, _, rfl, rfl⟩
theorem EncodedLength.jp_nc_n16 (n16 : Word) : EncodedLength.Statement (.jp_nc_n16 n16) := ⟨_, _, rfl, rfl⟩
theorem EncodedLength.illegal_d3 : EncodedLength.Statement (.illegal_d3) := ⟨_, _, rfl, rfl⟩
theorem EncodedLength.call_nc_n16 (n16 : Word) : EncodedLength.Statement (.call_nc_n16 n16) := ⟨_, _, rfl, rfl⟩
theorem EncodedLength.push_de : EncodedLength.Statement (.push_de) := ⟨_, _, rfl, rfl⟩
theorem EncodedLength.sub_n8 (n8 : Byte) : EncodedLength.Statement (.sub_n8 n8) := ⟨_, _, rfl, rfl⟩
theorem EncodedLength.rst_10 : EncodedLength.Statement (.rst_10) := ⟨_, _, rfl, rfl⟩
theorem EncodedLength.ret_c : EncodedLength.Statement (.ret_c) := ⟨_, _, rfl, rfl⟩
theorem EncodedLength.reti : EncodedLength.Statement (.reti) := ⟨_, _, rfl, rfl⟩
theorem EncodedLength.jp_c_n16 (n16 : Word) : EncodedLength.Statement (.jp_c_n16 n16) := ⟨_, _, rfl, rfl⟩
theorem EncodedLength.illegal_db : EncodedLength.Statement (.illegal_db) := ⟨_, _, rfl, rfl⟩
theorem EncodedLength.call_c_n16 (n16 : Word) : EncodedLength.Statement (.call_c_n16 n16) := ⟨_, _, rfl, rfl⟩
theorem EncodedLength.illegal_dd : EncodedLength.Statement (.illegal_dd) := ⟨_, _, rfl, rfl⟩
theorem EncodedLength.sbc_a_n8 (n8 : Byte) : EncodedLength.Statement (.sbc_a_n8 n8) := ⟨_, _, rfl, rfl⟩
theorem EncodedLength.rst_18 : EncodedLength.Statement (.rst_18) := ⟨_, _, rfl, rfl⟩
theorem EncodedLength.ldh_mn8_a (n8 : Byte) : EncodedLength.Statement (.ldh_mn8_a n8) := ⟨_, _, rfl, rfl⟩
theorem EncodedLength.pop_hl : EncodedLength.Statement (.pop_hl) := ⟨_, _, rfl, rfl⟩
theorem EncodedLength.ldh_mc_a : EncodedLength.Statement (.ldh_mc_a) := ⟨_, _, rfl, rfl⟩
theorem EncodedLength.illegal_e3 : EncodedLength.Statement (.illegal_e3) := ⟨_, _, rfl, rfl⟩
theorem EncodedLength.illegal_e4 : EncodedLength.Statement (.illegal_e4) := ⟨_, _, rfl, rfl⟩
theorem EncodedLength.push_hl : EncodedLength.Statement (.push_hl) := ⟨_, _, rfl, rfl⟩
theorem EncodedLength.and_n8 (n8 : Byte) : EncodedLength.Statement (.and_n8 n8) := ⟨_, _, rfl, rfl⟩
theorem EncodedLength.rst_20 : EncodedLength.Statement (.rst_20) := ⟨_, _, rfl, rfl⟩
theorem EncodedLength.add_sp_e8 (e8 : Byte) : EncodedLength.Statement (.add_sp_e8 e8) := ⟨_, _, rfl, rfl⟩
theorem EncodedLength.jp_hl : EncodedLength.Statement (.jp_hl) := ⟨_, _, rfl, rfl⟩
theorem EncodedLength.ld_mn16_a (n16 : Word) : EncodedLength.Statement (.ld_mn16_a n16) := ⟨_, _, rfl, rfl⟩
theorem EncodedLength.illegal_eb : EncodedLength.Statement (.illegal_eb) := ⟨_, _, rfl, rfl⟩
theorem EncodedLength.illegal_ec : EncodedLength.Statement (.illegal_ec) := ⟨_, _, rfl, rfl⟩
theorem EncodedLength.illegal_ed : EncodedLength.Statement (.illegal_ed) := ⟨_, _, rfl, rfl⟩
theorem EncodedLength.xor_n8 (n8 : Byte) : EncodedLength.Statement (.xor_n8 n8) := ⟨_, _, rfl, rfl⟩
theorem EncodedLength.rst_28 : EncodedLength.Statement (.rst_28) := ⟨_, _, rfl, rfl⟩
theorem EncodedLength.ldh_a_mn8 (n8 : Byte) : EncodedLength.Statement (.ldh_a_mn8 n8) := ⟨_, _, rfl, rfl⟩
theorem EncodedLength.pop_af : EncodedLength.Statement (.pop_af) := ⟨_, _, rfl, rfl⟩
theorem EncodedLength.ldh_a_mc : EncodedLength.Statement (.ldh_a_mc) := ⟨_, _, rfl, rfl⟩
theorem EncodedLength.di : EncodedLength.Statement (.di) := ⟨_, _, rfl, rfl⟩
theorem EncodedLength.illegal_f4 : EncodedLength.Statement (.illegal_f4) := ⟨_, _, rfl, rfl⟩
theorem EncodedLength.push_af : EncodedLength.Statement (.push_af) := ⟨_, _, rfl, rfl⟩
theorem EncodedLength.or_n8 (n8 : Byte) : EncodedLength.Statement (.or_n8 n8) := ⟨_, _, rfl, rfl⟩
theorem EncodedLength.rst_30 : EncodedLength.Statement (.rst_30) := ⟨_, _, rfl, rfl⟩
theorem EncodedLength.ld_hl_spe8 (e8 : Byte) : EncodedLength.Statement (.ld_hl_spe8 e8) := ⟨_, _, rfl, rfl⟩
theorem EncodedLength.ld_sp_hl : EncodedLength.Statement (.ld_sp_hl) := ⟨_, _, rfl, rfl⟩
theorem EncodedLength.ld_a_mn16 (n16 : Word) : EncodedLength.Statement (.ld_a_mn16 n16) := ⟨_, _, rfl, rfl⟩
theorem EncodedLength.ei : EncodedLength.Statement (.ei) := ⟨_, _, rfl, rfl⟩
theorem EncodedLength.illegal_fc : EncodedLength.Statement (.illegal_fc) := ⟨_, _, rfl, rfl⟩
theorem EncodedLength.illegal_fd : EncodedLength.Statement (.illegal_fd) := ⟨_, _, rfl, rfl⟩
theorem EncodedLength.cp_n8 (n8 : Byte) : EncodedLength.Statement (.cp_n8 n8) := ⟨_, _, rfl, rfl⟩
theorem EncodedLength.rst_38 : EncodedLength.Statement (.rst_38) := ⟨_, _, rfl, rfl⟩
theorem EncodedLength.rlc_b : EncodedLength.Statement (.rlc_b) := ⟨_, _, rfl, rfl⟩
theorem EncodedLength.rlc_c : EncodedLength.Statement (.rlc_c) := ⟨_, _, rfl, rfl⟩
theorem EncodedLength.rlc_d : EncodedLength.Statement (.rlc_d) := ⟨_, _, rfl, rfl⟩
theorem EncodedLength.rlc_e : EncodedLength.Statement (.rlc_e) := ⟨_, _, rfl, rfl⟩
theorem EncodedLength.rlc_h : EncodedLength.Statement (.rlc_h) := ⟨_, _, rfl, rfl⟩
theorem EncodedLength.rlc_l : EncodedLength.Statement (.rlc_l) := ⟨_, _, rfl, rfl⟩
theorem EncodedLength.rlc_mhl : EncodedLength.Statement (.rlc_mhl) := ⟨_, _, rfl, rfl⟩
theorem EncodedLength.rlc_a : EncodedLength.Statement (.rlc_a) := ⟨_, _, rfl, rfl⟩
theorem EncodedLength.rrc_b : EncodedLength.Statement (.rrc_b) := ⟨_, _, rfl, rfl⟩
theorem EncodedLength.rrc_c : EncodedLength.Statement (.rrc_c) := ⟨_, _, rfl, rfl⟩
theorem EncodedLength.rrc_d : EncodedLength.Statement (.rrc_d) := ⟨_, _, rfl, rfl⟩
theorem EncodedLength.rrc_e : EncodedLength.Statement (.rrc_e) := ⟨_, _, rfl, rfl⟩
theorem EncodedLength.rrc_h : EncodedLength.Statement (.rrc_h) := ⟨_, _, rfl, rfl⟩
theorem EncodedLength.rrc_l : EncodedLength.Statement (.rrc_l) := ⟨_, _, rfl, rfl⟩
theorem EncodedLength.rrc_mhl : EncodedLength.Statement (.rrc_mhl) := ⟨_, _, rfl, rfl⟩
theorem EncodedLength.rrc_a : EncodedLength.Statement (.rrc_a) := ⟨_, _, rfl, rfl⟩
theorem EncodedLength.rl_b : EncodedLength.Statement (.rl_b) := ⟨_, _, rfl, rfl⟩
theorem EncodedLength.rl_c : EncodedLength.Statement (.rl_c) := ⟨_, _, rfl, rfl⟩
theorem EncodedLength.rl_d : EncodedLength.Statement (.rl_d) := ⟨_, _, rfl, rfl⟩
theorem EncodedLength.rl_e : EncodedLength.Statement (.rl_e) := ⟨_, _, rfl, rfl⟩
theorem EncodedLength.rl_h : EncodedLength.Statement (.rl_h) := ⟨_, _, rfl, rfl⟩
theorem EncodedLength.rl_l : EncodedLength.Statement (.rl_l) := ⟨_, _, rfl, rfl⟩
theorem EncodedLength.rl_mhl : EncodedLength.Statement (.rl_mhl) := ⟨_, _, rfl, rfl⟩
theorem EncodedLength.rl_a : EncodedLength.Statement (.rl_a) := ⟨_, _, rfl, rfl⟩
theorem EncodedLength.rr_b : EncodedLength.Statement (.rr_b) := ⟨_, _, rfl, rfl⟩
theorem EncodedLength.rr_c : EncodedLength.Statement (.rr_c) := ⟨_, _, rfl, rfl⟩
theorem EncodedLength.rr_d : EncodedLength.Statement (.rr_d) := ⟨_, _, rfl, rfl⟩
theorem EncodedLength.rr_e : EncodedLength.Statement (.rr_e) := ⟨_, _, rfl, rfl⟩
theorem EncodedLength.rr_h : EncodedLength.Statement (.rr_h) := ⟨_, _, rfl, rfl⟩
theorem EncodedLength.rr_l : EncodedLength.Statement (.rr_l) := ⟨_, _, rfl, rfl⟩
theorem EncodedLength.rr_mhl : EncodedLength.Statement (.rr_mhl) := ⟨_, _, rfl, rfl⟩
theorem EncodedLength.rr_a : EncodedLength.Statement (.rr_a) := ⟨_, _, rfl, rfl⟩
theorem EncodedLength.sla_b : EncodedLength.Statement (.sla_b) := ⟨_, _, rfl, rfl⟩
theorem EncodedLength.sla_c : EncodedLength.Statement (.sla_c) := ⟨_, _, rfl, rfl⟩
theorem EncodedLength.sla_d : EncodedLength.Statement (.sla_d) := ⟨_, _, rfl, rfl⟩
theorem EncodedLength.sla_e : EncodedLength.Statement (.sla_e) := ⟨_, _, rfl, rfl⟩
theorem EncodedLength.sla_h : EncodedLength.Statement (.sla_h) := ⟨_, _, rfl, rfl⟩
theorem EncodedLength.sla_l : EncodedLength.Statement (.sla_l) := ⟨_, _, rfl, rfl⟩
theorem EncodedLength.sla_mhl : EncodedLength.Statement (.sla_mhl) := ⟨_, _, rfl, rfl⟩
theorem EncodedLength.sla_a : EncodedLength.Statement (.sla_a) := ⟨_, _, rfl, rfl⟩
theorem EncodedLength.sra_b : EncodedLength.Statement (.sra_b) := ⟨_, _, rfl, rfl⟩
theorem EncodedLength.sra_c : EncodedLength.Statement (.sra_c) := ⟨_, _, rfl, rfl⟩
theorem EncodedLength.sra_d : EncodedLength.Statement (.sra_d) := ⟨_, _, rfl, rfl⟩
theorem EncodedLength.sra_e : EncodedLength.Statement (.sra_e) := ⟨_, _, rfl, rfl⟩
theorem EncodedLength.sra_h : EncodedLength.Statement (.sra_h) := ⟨_, _, rfl, rfl⟩
theorem EncodedLength.sra_l : EncodedLength.Statement (.sra_l) := ⟨_, _, rfl, rfl⟩
theorem EncodedLength.sra_mhl : EncodedLength.Statement (.sra_mhl) := ⟨_, _, rfl, rfl⟩
theorem EncodedLength.sra_a : EncodedLength.Statement (.sra_a) := ⟨_, _, rfl, rfl⟩
theorem EncodedLength.swap_b : EncodedLength.Statement (.swap_b) := ⟨_, _, rfl, rfl⟩
theorem EncodedLength.swap_c : EncodedLength.Statement (.swap_c) := ⟨_, _, rfl, rfl⟩
theorem EncodedLength.swap_d : EncodedLength.Statement (.swap_d) := ⟨_, _, rfl, rfl⟩
theorem EncodedLength.swap_e : EncodedLength.Statement (.swap_e) := ⟨_, _, rfl, rfl⟩
theorem EncodedLength.swap_h : EncodedLength.Statement (.swap_h) := ⟨_, _, rfl, rfl⟩
theorem EncodedLength.swap_l : EncodedLength.Statement (.swap_l) := ⟨_, _, rfl, rfl⟩
theorem EncodedLength.swap_mhl : EncodedLength.Statement (.swap_mhl) := ⟨_, _, rfl, rfl⟩
theorem EncodedLength.swap_a : EncodedLength.Statement (.swap_a) := ⟨_, _, rfl, rfl⟩
theorem EncodedLength.srl_b : EncodedLength.Statement (.srl_b) := ⟨_, _, rfl, rfl⟩
theorem EncodedLength.srl_c : EncodedLength.Statement (.srl_c) := ⟨_, _, rfl, rfl⟩
theorem EncodedLength.srl_d : EncodedLength.Statement (.srl_d) := ⟨_, _, rfl, rfl⟩
theorem EncodedLength.srl_e : EncodedLength.Statement (.srl_e) := ⟨_, _, rfl, rfl⟩
theorem EncodedLength.srl_h : EncodedLength.Statement (.srl_h) := ⟨_, _, rfl, rfl⟩
theorem EncodedLength.srl_l : EncodedLength.Statement (.srl_l) := ⟨_, _, rfl, rfl⟩
theorem EncodedLength.srl_mhl : EncodedLength.Statement (.srl_mhl) := ⟨_, _, rfl, rfl⟩
theorem EncodedLength.srl_a : EncodedLength.Statement (.srl_a) := ⟨_, _, rfl, rfl⟩
theorem EncodedLength.bit_0_b : EncodedLength.Statement (.bit_0_b) := ⟨_, _, rfl, rfl⟩
theorem EncodedLength.bit_0_c : EncodedLength.Statement (.bit_0_c) := ⟨_, _, rfl, rfl⟩
theorem EncodedLength.bit_0_d : EncodedLength.Statement (.bit_0_d) := ⟨_, _, rfl, rfl⟩
theorem EncodedLength.bit_0_e : EncodedLength.Statement (.bit_0_e) := ⟨_, _, rfl, rfl⟩
theorem EncodedLength.bit_0_h : EncodedLength.Statement (.bit_0_h) := ⟨_, _, rfl, rfl⟩
theorem EncodedLength.bit_0_l : EncodedLength.Statement (.bit_0_l) := ⟨_, _, rfl, rfl⟩
theorem EncodedLength.bit_0_mhl : EncodedLength.Statement (.bit_0_mhl) := ⟨_, _, rfl, rfl⟩
theorem EncodedLength.bit_0_a : EncodedLength.Statement (.bit_0_a) := ⟨_, _, rfl, rfl⟩
theorem EncodedLength.bit_1_b : EncodedLength.Statement (.bit_1_b) := ⟨_, _, rfl, rfl⟩
theorem EncodedLength.bit_1_c : EncodedLength.Statement (.bit_1_c) := ⟨_, _, rfl, rfl⟩
theorem EncodedLength.bit_1_d : EncodedLength.Statement (.bit_1_d) := ⟨_, _, rfl, rfl⟩
theorem EncodedLength.bit_1_e : EncodedLength.Statement (.bit_1_e) := ⟨_, _, rfl, rfl⟩
theorem EncodedLength.bit_1_h : EncodedLength.Statement (.bit_1_h) := ⟨_, _, rfl, rfl⟩
theorem EncodedLength.bit_1_l : EncodedLength.Statement (.bit_1_l) := ⟨_, _, rfl, rfl⟩
theorem EncodedLength.bit_1_mhl : EncodedLength.Statement (.bit_1_mhl) := ⟨_, _, rfl, rfl⟩
theorem EncodedLength.bit_1_a : EncodedLength.Statement (.bit_1_a) := ⟨_, _, rfl, rfl⟩
theorem EncodedLength.bit_2_b : EncodedLength.Statement (.bit_2_b) := ⟨_, _, rfl, rfl⟩
theorem EncodedLength.bit_2_c : EncodedLength.Statement (.bit_2_c) := ⟨_, _, rfl, rfl⟩
theorem EncodedLength.bit_2_d : EncodedLength.Statement (.bit_2_d) := ⟨_, _, rfl, rfl⟩
theorem EncodedLength.bit_2_e : EncodedLength.Statement (.bit_2_e) := ⟨_, _, rfl, rfl⟩
theorem EncodedLength.bit_2_h : EncodedLength.Statement (.bit_2_h) := ⟨_, _, rfl, rfl⟩
theorem EncodedLength.bit_2_l : EncodedLength.Statement (.bit_2_l) := ⟨_, _, rfl, rfl⟩
theorem EncodedLength.bit_2_mhl : EncodedLength.Statement (.bit_2_mhl) := ⟨_, _, rfl, rfl⟩
theorem EncodedLength.bit_2_a : EncodedLength.Statement (.bit_2_a) := ⟨_, _, rfl, rfl⟩
theorem EncodedLength.bit_3_b : EncodedLength.Statement (.bit_3_b) := ⟨_, _, rfl, rfl⟩
theorem EncodedLength.bit_3_c : EncodedLength.Statement (.bit_3_c) := ⟨_, _, rfl, rfl⟩
theorem EncodedLength.bit_3_d : EncodedLength.Statement (.bit_3_d) := ⟨_, _, rfl, rfl⟩
theorem EncodedLength.bit_3_e : EncodedLength.Statement (.bit_3_e) := ⟨_, _, rfl, rfl⟩
theorem EncodedLength.bit_3_h : EncodedLength.Statement (.bit_3_h) := ⟨_, _, rfl, rfl⟩
theorem EncodedLength.bit_3_l : EncodedLength.Statement (.bit_3_l) := ⟨_, _, rfl, rfl⟩
theorem EncodedLength.bit_3_mhl : EncodedLength.Statement (.bit_3_mhl) := ⟨_, _, rfl, rfl⟩
theorem EncodedLength.bit_3_a : EncodedLength.Statement (.bit_3_a) := ⟨_, _, rfl, rfl⟩
theorem EncodedLength.bit_4_b : EncodedLength.Statement (.bit_4_b) := ⟨_, _, rfl, rfl⟩
theorem EncodedLength.bit_4_c : EncodedLength.Statement (.bit_4_c) := ⟨_, _, rfl, rfl⟩
theorem EncodedLength.bit_4_d : EncodedLength.Statement (.bit_4_d) := ⟨_, _, rfl, rfl⟩
theorem EncodedLength.bit_4_e : EncodedLength.Statement (.bit_4_e) := ⟨_, _, rfl, rfl⟩
theorem EncodedLength.bit_4_h : EncodedLength.Statement (.bit_4_h) := ⟨_, _, rfl, rfl⟩
theorem EncodedLength.bit_4_l : EncodedLength.Statement (.bit_4_l) := ⟨_, _, rfl, rfl⟩
theorem EncodedLength.bit_4_mhl : EncodedLength.Statement (.bit_4_mhl) := ⟨_, _, rfl, rfl⟩
theorem EncodedLength.bit_4_a : EncodedLength.Statement (.bit_4_a) := ⟨_, _, rfl, rfl⟩
theorem EncodedLength.bit_5_b : EncodedLength.Statement (.bit_5_b) := ⟨_, _, rfl, rfl⟩
theorem EncodedLength.bit_5_c : EncodedLength.Statement (.bit_5_c) := ⟨_, _, rfl, rfl⟩
theorem EncodedLength.bit_5_d : EncodedLength.Statement (.bit_5_d) := ⟨_, _, rfl, rfl⟩
theorem EncodedLength.bit_5_e : EncodedLength.Statement (.bit_5_e) := ⟨_, _, rfl, rfl⟩
theorem EncodedLength.bit_5_h : EncodedLength.Statement (.bit_5_h) := ⟨_, _, rfl, rfl⟩
theorem EncodedLength.bit_5_l : EncodedLength.Statement (.bit_5_l) := ⟨_, _, rfl, rfl⟩
theorem EncodedLength.bit_5_mhl : EncodedLength.Statement (.bit_5_mhl) := ⟨_, _, rfl, rfl⟩
theorem EncodedLength.bit_5_a : EncodedLength.Statement (.bit_5_a) := ⟨_, _, rfl, rfl⟩
theorem EncodedLength.bit_6_b : EncodedLength.Statement (.bit_6_b) := ⟨_, _, rfl, rfl⟩
theorem EncodedLength.bit_6_c : EncodedLength.Statement (.bit_6_c) := ⟨_, _, rfl, rfl⟩
theorem EncodedLength.bit_6_d : EncodedLength.Statement (.bit_6_d) := ⟨_, _, rfl, rfl⟩
theorem EncodedLength.bit_6_e : EncodedLength.Statement (.bit_6_e) := ⟨_, _, rfl, rfl⟩
theorem EncodedLength.bit_6_h : EncodedLength.Statement (.bit_6_h) := ⟨_, _, rfl, rfl⟩
theorem EncodedLength.bit_6_l : EncodedLength.Statement (.bit_6_l) := ⟨_, _, rfl, rfl⟩
theorem EncodedLength.bit_6_mhl : EncodedLength.Statement (.bit_6_mhl) := ⟨_, _, rfl, rfl⟩
theorem EncodedLength.bit_6_a : EncodedLength.Statement (.bit_6_a) := ⟨_, _, rfl, rfl⟩
theorem EncodedLength.bit_7_b : EncodedLength.Statement (.bit_7_b) := ⟨_, _, rfl, rfl⟩
theorem EncodedLength.bit_7_c : EncodedLength.Statement (.bit_7_c) := ⟨_, _, rfl, rfl⟩
theorem EncodedLength.bit_7_d : EncodedLength.Statement (.bit_7_d) := ⟨_, _, rfl, rfl⟩
theorem EncodedLength.bit_7_e : EncodedLength.Statement (.bit_7_e) := ⟨_, _, rfl, rfl⟩
theorem EncodedLength.bit_7_h : EncodedLength.Statement (.bit_7_h) := ⟨_, _, rfl, rfl⟩
theorem EncodedLength.bit_7_l : EncodedLength.Statement (.bit_7_l) := ⟨_, _, rfl, rfl⟩
theorem EncodedLength.bit_7_mhl : EncodedLength.Statement (.bit_7_mhl) := ⟨_, _, rfl, rfl⟩
theorem EncodedLength.bit_7_a : EncodedLength.Statement (.bit_7_a) := ⟨_, _, rfl, rfl⟩
theorem EncodedLength.res_0_b : EncodedLength.Statement (.res_0_b) := ⟨_, _, rfl, rfl⟩
theorem EncodedLength.res_0_c : EncodedLength.Statement (.res_0_c) := ⟨_, _, rfl, rfl⟩
theorem EncodedLength.res_0_d : EncodedLength.Statement (.res_0_d) := ⟨_, _, rfl, rfl⟩
theorem EncodedLength.res_0_e : EncodedLength.Statement (.res_0_e) := ⟨_, _, rfl, rfl⟩
theorem EncodedLength.res_0_h : EncodedLength.Statement (.res_0_h) := ⟨_, _, rfl, rfl⟩
theorem EncodedLength.res_0_l : EncodedLength.Statement (.res_0_l) := ⟨_, _, rfl, rfl⟩
theorem EncodedLength.res_0_mhl : EncodedLength.Statement (.res_0_mhl) := ⟨_, _, rfl, rfl⟩
theorem EncodedLength.res_0_a : EncodedLength.Statement (.res_0_a) := ⟨_, _, rfl, rfl⟩
theorem EncodedLength.res_1_b : EncodedLength.Statement (.res_1_b) := ⟨_, _, rfl, rfl⟩
theorem EncodedLength.res_1_c : EncodedLength.Statement (.res_1_c) := ⟨_, _, rfl, rfl⟩
theorem EncodedLength.res_1_d : EncodedLength.Statement (.res_1_d) := ⟨_, _, rfl, rfl⟩
theorem EncodedLength.res_1_e : EncodedLength.Statement (.res_1_e) := ⟨_, _, rfl, rfl⟩
theorem EncodedLength.res_1_h : EncodedLength.Statement (.res_1_h) := ⟨_, _, rfl, rfl⟩
theorem EncodedLength.res_1_l : EncodedLength.Statement (.res_1_l) := ⟨_, _, rfl, rfl⟩
theorem EncodedLength.res_1_mhl : EncodedLength.Statement (.res_1_mhl) := ⟨_, _, rfl, rfl⟩
theorem EncodedLength.res_1_a : EncodedLength.Statement (.res_1_a) := ⟨_, _, rfl, rfl⟩
theorem EncodedLength.res_2_b : EncodedLength.Statement (.res_2_b) := ⟨_, _, rfl, rfl⟩
theorem EncodedLength.res_2_c : EncodedLength.Statement (.res_2_c) := ⟨_, _, rfl, rfl⟩
theorem EncodedLength.res_2_d : EncodedLength.Statement (.res_2_d) := ⟨_, _, rfl, rfl⟩
theorem EncodedLength.res_2_e : EncodedLength.Statement (.res_2_e) := ⟨_, _, rfl, rfl⟩
theorem EncodedLength.res_2_h : EncodedLength.Statement (.res_2_h) := ⟨_, _, rfl, rfl⟩
theorem EncodedLength.res_2_l : EncodedLength.Statement (.res_2_l) := ⟨_, _, rfl, rfl⟩
theorem EncodedLength.res_2_mhl : EncodedLength.Statement (.res_2_mhl) := ⟨_, _, rfl, rfl⟩
theorem EncodedLength.res_2_a : EncodedLength.Statement (.res_2_a) := ⟨_, _, rfl, rfl⟩
theorem EncodedLength.res_3_b : EncodedLength.Statement (.res_3_b) := ⟨_, _, rfl, rfl⟩
theorem EncodedLength.res_3_c : EncodedLength.Statement (.res_3_c) := ⟨_, _, rfl, rfl⟩
theorem EncodedLength.res_3_d : EncodedLength.Statement (.res_3_d) := ⟨_, _, rfl, rfl⟩
theorem EncodedLength.res_3_e : EncodedLength.Statement (.res_3_e) := ⟨_, _, rfl, rfl⟩
theorem EncodedLength.res_3_h : EncodedLength.Statement (.res_3_h) := ⟨_, _, rfl, rfl⟩
theorem EncodedLength.res_3_l : EncodedLength.Statement (.res_3_l) := ⟨_, _, rfl, rfl⟩
theorem EncodedLength.res_3_mhl : EncodedLength.Statement (.res_3_mhl) := ⟨_, _, rfl, rfl⟩
theorem EncodedLength.res_3_a : EncodedLength.Statement (.res_3_a) := ⟨_, _, rfl, rfl⟩
theorem EncodedLength.res_4_b : EncodedLength.Statement (.res_4_b) := ⟨_, _, rfl, rfl⟩
theorem EncodedLength.res_4_c : EncodedLength.Statement (.res_4_c) := ⟨_, _, rfl, rfl⟩
theorem EncodedLength.res_4_d : EncodedLength.Statement (.res_4_d) := ⟨_, _, rfl, rfl⟩
theorem EncodedLength.res_4_e : EncodedLength.Statement (.res_4_e) := ⟨_, _, rfl, rfl⟩
theorem EncodedLength.res_4_h : EncodedLength.Statement (.res_4_h) := ⟨_, _, rfl, rfl⟩
theorem EncodedLength.res_4_l : EncodedLength.Statement (.res_4_l) := ⟨_, _, rfl, rfl⟩
theorem EncodedLength.res_4_mhl : EncodedLength.Statement (.res_4_mhl) := ⟨_, _, rfl, rfl⟩
theorem EncodedLength.res_4_a : EncodedLength.Statement (.res_4_a) := ⟨_, _, rfl, rfl⟩
theorem EncodedLength.res_5_b : EncodedLength.Statement (.res_5_b) := ⟨_, _, rfl, rfl⟩
theorem EncodedLength.res_5_c : EncodedLength.Statement (.res_5_c) := ⟨_, _, rfl, rfl⟩
theorem EncodedLength.res_5_d : EncodedLength.Statement (.res_5_d) := ⟨_, _, rfl, rfl⟩
theorem EncodedLength.res_5_e : EncodedLength.Statement (.res_5_e) := ⟨_, _, rfl, rfl⟩
theorem EncodedLength.res_5_h : EncodedLength.Statement (.res_5_h) := ⟨_, _, rfl, rfl⟩
theorem EncodedLength.res_5_l : EncodedLength.Statement (.res_5_l) := ⟨_, _, rfl, rfl⟩
theorem EncodedLength.res_5_mhl : EncodedLength.Statement (.res_5_mhl) := ⟨_, _, rfl, rfl⟩
theorem EncodedLength.res_5_a : EncodedLength.Statement (.res_5_a) := ⟨_, _, rfl, rfl⟩
theorem EncodedLength.res_6_b : EncodedLength.Statement (.res_6_b) := ⟨_, _, rfl, rfl⟩
theorem EncodedLength.res_6_c : EncodedLength.Statement (.res_6_c) := ⟨_, _, rfl, rfl⟩
theorem EncodedLength.res_6_d : EncodedLength.Statement (.res_6_d) := ⟨_, _, rfl, rfl⟩
theorem EncodedLength.res_6_e : EncodedLength.Statement (.res_6_e) := ⟨_, _, rfl, rfl⟩
theorem EncodedLength.res_6_h : EncodedLength.Statement (.res_6_h) := ⟨_, _, rfl, rfl⟩
theorem EncodedLength.res_6_l : EncodedLength.Statement (.res_6_l) := ⟨_, _, rfl, rfl⟩
theorem EncodedLength.res_6_mhl : EncodedLength.Statement (.res_6_mhl) := ⟨_, _, rfl, rfl⟩
theorem EncodedLength.res_6_a : EncodedLength.Statement (.res_6_a) := ⟨_, _, rfl, rfl⟩
theorem EncodedLength.res_7_b : EncodedLength.Statement (.res_7_b) := ⟨_, _, rfl, rfl⟩
theorem EncodedLength.res_7_c : EncodedLength.Statement (.res_7_c) := ⟨_, _, rfl, rfl⟩
theorem EncodedLength.res_7_d : EncodedLength.Statement (.res_7_d) := ⟨_, _, rfl, rfl⟩
theorem EncodedLength.res_7_e : EncodedLength.Statement (.res_7_e) := ⟨_, _, rfl, rfl⟩
theorem EncodedLength.res_7_h : EncodedLength.Statement (.res_7_h) := ⟨_, _, rfl, rfl⟩
theorem EncodedLength.res_7_l : EncodedLength.Statement (.res_7_l) := ⟨_, _, rfl, rfl⟩
theorem EncodedLength.res_7_mhl : EncodedLength.Statement (.res_7_mhl) := ⟨_, _, rfl, rfl⟩
theorem EncodedLength.res_7_a : EncodedLength.Statement (.res_7_a) := ⟨_, _, rfl, rfl⟩
theorem EncodedLength.set_0_b : EncodedLength.Statement (.set_0_b) := ⟨_, _, rfl, rfl⟩
theorem EncodedLength.set_0_c : EncodedLength.Statement (.set_0_c) := ⟨_, _, rfl, rfl⟩
theorem EncodedLength.set_0_d : EncodedLength.Statement (.set_0_d) := ⟨_, _, rfl, rfl⟩
theorem EncodedLength.set_0_e : EncodedLength.Statement (.set_0_e) := ⟨_, _, rfl, rfl⟩
theorem EncodedLength.set_0_h : EncodedLength.Statement (.set_0_h) := ⟨_, _, rfl, rfl⟩
theorem EncodedLength.set_0_l : EncodedLength.Statement (.set_0_l) := ⟨_, _, rfl, rfl⟩
theorem EncodedLength.set_0_mhl : EncodedLength.Statement (.set_0_mhl) := ⟨_, _, rfl, rfl⟩
theorem EncodedLength.set_0_a : EncodedLength.Statement (.set_0_a) := ⟨_, _, rfl, rfl⟩
theorem EncodedLength.set_1_b : EncodedLength.Statement (.set_1_b) := ⟨_, _, rfl, rfl⟩
theorem EncodedLength.set_1_c : EncodedLength.Statement (.set_1_c) := ⟨_, _, rfl, rfl⟩
theorem EncodedLength.set_1_d : EncodedLength.Statement (.set_1_d) := ⟨_, _, rfl, rfl⟩
theorem EncodedLength.set_1_e : EncodedLength.Statement (.set_1_e) := ⟨_, _, rfl, rfl⟩
theorem EncodedLength.set_1_h : EncodedLength.Statement (.set_1_h) := ⟨_, _, rfl, rfl⟩
theorem EncodedLength.set_1_l : EncodedLength.Statement (.set_1_l) := ⟨_, _, rfl, rfl⟩
theorem EncodedLength.set_1_mhl : EncodedLength.Statement (.set_1_mhl) := ⟨_, _, rfl, rfl⟩
theorem EncodedLength.set_1_a : EncodedLength.Statement (.set_1_a) := ⟨_, _, rfl, rfl⟩
theorem EncodedLength.set_2_b : EncodedLength.Statement (.set_2_b) := ⟨_, _, rfl, rfl⟩
theorem EncodedLength.set_2_c : EncodedLength.Statement (.set_2_c) := ⟨_, _, rfl, rfl⟩
theorem EncodedLength.set_2_d : EncodedLength.Statement (.set_2_d) := ⟨_, _, rfl, rfl⟩
theorem EncodedLength.set_2_e : EncodedLength.Statement (.set_2_e) := ⟨_, _, rfl, rfl⟩
theorem EncodedLength.set_2_h : EncodedLength.Statement (.set_2_h) := ⟨_, _, rfl, rfl⟩
theorem EncodedLength.set_2_l : EncodedLength.Statement (.set_2_l) := ⟨_, _, rfl, rfl⟩
theorem EncodedLength.set_2_mhl : EncodedLength.Statement (.set_2_mhl) := ⟨_, _, rfl, rfl⟩
theorem EncodedLength.set_2_a : EncodedLength.Statement (.set_2_a) := ⟨_, _, rfl, rfl⟩
theorem EncodedLength.set_3_b : EncodedLength.Statement (.set_3_b) := ⟨_, _, rfl, rfl⟩
theorem EncodedLength.set_3_c : EncodedLength.Statement (.set_3_c) := ⟨_, _, rfl, rfl⟩
theorem EncodedLength.set_3_d : EncodedLength.Statement (.set_3_d) := ⟨_, _, rfl, rfl⟩
theorem EncodedLength.set_3_e : EncodedLength.Statement (.set_3_e) := ⟨_, _, rfl, rfl⟩
theorem EncodedLength.set_3_h : EncodedLength.Statement (.set_3_h) := ⟨_, _, rfl, rfl⟩
theorem EncodedLength.set_3_l : EncodedLength.Statement (.set_3_l) := ⟨_, _, rfl, rfl⟩
theorem EncodedLength.set_3_mhl : EncodedLength.Statement (.set_3_mhl) := ⟨_, _, rfl, rfl⟩
theorem EncodedLength.set_3_a : EncodedLength.Statement (.set_3_a) := ⟨_, _, rfl, rfl⟩
theorem EncodedLength.set_4_b : EncodedLength.Statement (.set_4_b) := ⟨_, _, rfl, rfl⟩
theorem EncodedLength.set_4_c : EncodedLength.Statement (.set_4_c) := ⟨_, _, rfl, rfl⟩
theorem EncodedLength.set_4_d : EncodedLength.Statement (.set_4_d) := ⟨_, _, rfl, rfl⟩
theorem EncodedLength.set_4_e : EncodedLength.Statement (.set_4_e) := ⟨_, _, rfl, rfl⟩
theorem EncodedLength.set_4_h : EncodedLength.Statement (.set_4_h) := ⟨_, _, rfl, rfl⟩
theorem EncodedLength.set_4_l : EncodedLength.Statement (.set_4_l) := ⟨_, _, rfl, rfl⟩
theorem EncodedLength.set_4_mhl : EncodedLength.Statement (.set_4_mhl) := ⟨_, _, rfl, rfl⟩
theorem EncodedLength.set_4_a : EncodedLength.Statement (.set_4_a) := ⟨_, _, rfl, rfl⟩
theorem EncodedLength.set_5_b : EncodedLength.Statement (.set_5_b) := ⟨_, _, rfl, rfl⟩
theorem EncodedLength.set_5_c : EncodedLength.Statement (.set_5_c) := ⟨_, _, rfl, rfl⟩
theorem EncodedLength.set_5_d : EncodedLength.Statement (.set_5_d) := ⟨_, _, rfl, rfl⟩
theorem EncodedLength.set_5_e : EncodedLength.Statement (.set_5_e) := ⟨_, _, rfl, rfl⟩
theorem EncodedLength.set_5_h : EncodedLength.Statement (.set_5_h) := ⟨_, _, rfl, rfl⟩
theorem EncodedLength.set_5_l : EncodedLength.Statement (.set_5_l) := ⟨_, _, rfl, rfl⟩
theorem EncodedLength.set_5_mhl : EncodedLength.Statement (.set_5_mhl) := ⟨_, _, rfl, rfl⟩
theorem EncodedLength.set_5_a : EncodedLength.Statement (.set_5_a) := ⟨_, _, rfl, rfl⟩
theorem EncodedLength.set_6_b : EncodedLength.Statement (.set_6_b) := ⟨_, _, rfl, rfl⟩
theorem EncodedLength.set_6_c : EncodedLength.Statement (.set_6_c) := ⟨_, _, rfl, rfl⟩
theorem EncodedLength.set_6_d : EncodedLength.Statement (.set_6_d) := ⟨_, _, rfl, rfl⟩
theorem EncodedLength.set_6_e : EncodedLength.Statement (.set_6_e) := ⟨_, _, rfl, rfl⟩
theorem EncodedLength.set_6_h : EncodedLength.Statement (.set_6_h) := ⟨_, _, rfl, rfl⟩
theorem EncodedLength.set_6_l : EncodedLength.Statement (.set_6_l) := ⟨_, _, rfl, rfl⟩
theorem EncodedLength.set_6_mhl : EncodedLength.Statement (.set_6_mhl) := ⟨_, _, rfl, rfl⟩
theorem EncodedLength.set_6_a : EncodedLength.Statement (.set_6_a) := ⟨_, _, rfl, rfl⟩
theorem EncodedLength.set_7_b : EncodedLength.Statement (.set_7_b) := ⟨_, _, rfl, rfl⟩
theorem EncodedLength.set_7_c : EncodedLength.Statement (.set_7_c) := ⟨_, _, rfl, rfl⟩
theorem EncodedLength.set_7_d : EncodedLength.Statement (.set_7_d) := ⟨_, _, rfl, rfl⟩
theorem EncodedLength.set_7_e : EncodedLength.Statement (.set_7_e) := ⟨_, _, rfl, rfl⟩
theorem EncodedLength.set_7_h : EncodedLength.Statement (.set_7_h) := ⟨_, _, rfl, rfl⟩
theorem EncodedLength.set_7_l : EncodedLength.Statement (.set_7_l) := ⟨_, _, rfl, rfl⟩
theorem EncodedLength.set_7_mhl : EncodedLength.Statement (.set_7_mhl) := ⟨_, _, rfl, rfl⟩
theorem EncodedLength.set_7_a : EncodedLength.Statement (.set_7_a) := ⟨_, _, rfl, rfl⟩

end Sys2Proof.Laws
end

