-- ==== Sys2Proof/Laws/Step.lean ====
section
/-! SUPPORT. What a step can do: it runs the one instruction its bytes encode; and what the accesses of an instruction are. -/

namespace Sys2Proof.Machine

/-- Every step is one well-formed instruction, the one whose bytes stand at PC, executed with PC past them. -/
theorem step_cases (s : State) :
    ∃ i, WellFormed i ∧ encode i = s.instrBytes ∧
      step s = exec i (s.setPc (s.pc + BitVec.ofNat 16 (instrLength (s.memRead s.pc)))) := by
  obtain ⟨i, hw, he, hf⟩ := s.fetchDecode_eq
  exact ⟨i, hw, he, by simp only [step, hf]⟩

/-- A form answers a next state or the fault; it never refuses. -/
theorem runForm_cases (f : Form) (s : State) :
    (∃ t, runForm f s = .next t) ∨ ∃ k, f.instr = (Form.stops k).instr ∧ runForm f s = stopWith k s := by
  cases f with
  | ld dst src =>
    by_cases h : dst = .mhl ∧ src = .mhl
    · obtain ⟨rfl, rfl⟩ := h
      exact .inr ⟨.halt, rfl, rfl⟩
    · exact .inl ⟨_, if_neg h⟩
  | stops k => exact .inr ⟨k, rfl, rfl⟩
  | _ => exact .inl ⟨_, rfl⟩

/-! ### Replaying accesses -/

@[simp] theorem replayWrites_append (xs ys : List Access) (s : State) :
    replayWrites (xs ++ ys) s = replayWrites ys (replayWrites xs s) := by
  induction xs generalizing s with
  | nil => rfl
  | cons x xs ih => cases x <;> exact ih _

/-- Replaying depends on memory alone. -/
theorem replayWrites_mem_congr {s t : State} (h : s.mem = t.mem) (xs : List Access) :
    (replayWrites xs s).mem = (replayWrites xs t).mem := by
  induction xs generalizing s t with
  | nil => exact h
  | cons x xs ih =>
    cases x with
    | write addr v => exact ih (by simp [State.memWrite, h])
    | _ => exact ih h

/-- Replaying keeps the canonical form of memory. -/
theorem replayWrites_wf {s : State} (h : s.mem.wf = true) (xs : List Access) : (replayWrites xs s).mem.wf = true := by
  induction xs generalizing s with
  | nil => exact h
  | cons x xs ih =>
    cases x with
    | write addr v => exact ih (State.wf_memWrite addr v h)
    | _ => exact ih h

@[simp] theorem replayWrites_fetchAccesses (n : Nat) (s t : State) : replayWrites (fetchAccesses n s) t = t := by
  induction n generalizing s with
  | zero => rfl
  | succ n ih => exact ih _

@[simp] theorem replayWrites_readR8Accesses (r : R8) (s t : State) : replayWrites (readR8Accesses r s) t = t := by
  unfold readR8Accesses
  split <;> rfl

/-- Writing an operand is replaying its access. -/
theorem replayWrites_writeR8Accesses (r : R8) (v : Byte) (s : State) :
    (replayWrites (writeR8Accesses r v s) s).mem = (s.writeR8 r v).mem := by
  rw [State.writeR8_mem, writeR8Accesses]
  split <;> rfl

@[simp] theorem replayWrites_popAccesses (s t : State) : replayWrites (popAccesses s) t = t := rfl

theorem replayWrites_pushAccesses (v : Word) (s : State) : (replayWrites (pushAccesses v s) s).mem = (s.push16 v).mem := by
  rw [State.push16_eq]
  rfl

/-- The escape byte's row runs the form of the prefixed space. -/
theorem runForm_prefixedForm (op2 : Byte) (s : State) : runForm (prefixedForm op2) s = .next (runPrefixed op2 s) := by
  unfold prefixedForm runPrefixed
  rcases fieldX op2 with _ | _ | _ | n <;> rfl

theorem prefixedForm_ne_escape (op2 x : Byte) : prefixedForm op2 ≠ .escape x := by
  unfold prefixedForm
  split <;> exact Form.noConfusion

/-- A faulting opcode has no next state (60_exceptions.md R263). -/
theorem stopWith_ne_next (k : Stop) (s t : State) : stopWith k s ≠ .next t := fun h => nomatch h

/-- A next state that is known is known in its memory. -/
theorem next_mem {r t : State} {m : Memory} (h : (Host.Outcome.next r : Result) = .next t) (e : r.mem = m) : t.mem = m := by
  cases h
  exact e

/-- Reading an operand and writing it back is replaying its two accesses. -/
theorem writeR8_mem_replay (r : R8) (v : Byte) (s : State) :
    (s.writeR8 r v).mem = (replayWrites (readR8Accesses r s ++ writeR8Accesses r v s) s).mem := by
  rw [replayWrites_append, replayWrites_readR8Accesses, replayWrites_writeR8Accesses]

/-- An instruction that only reads its operand leaves memory. -/
theorem readR8_mem_replay (r : R8) (s : State) : s.mem = (replayWrites (readR8Accesses r s) s).mem := by
  rw [replayWrites_readR8Accesses]

/-- A call writes memory as its push does. -/
theorem callSub_mem (n : Word) (s : State) : (callSub n s).mem = (replayWrites (pushAccesses s.pc s) s).mem := by
  rw [replayWrites_pushAccesses]
  rfl

/-- The memory a form leaves is its listed writes replayed on the memory before it. -/
theorem runForm_mem {f : Form} {s t : State} (hf : ∀ x, f ≠ .escape x) (h : runForm f s = .next t) :
    t.mem = (replayWrites (formAccesses f s) s).mem := by
  cases f with
  | ld dst src =>
    by_cases hm : dst = .mhl ∧ src = .mhl
    · obtain ⟨rfl, rfl⟩ := hm
      exact absurd h (stopWith_ne_next .halt s t)
    · refine next_mem ((if_neg hm).symm.trans h) ?_
      show (s.writeR8 dst _).mem = (replayWrites (readR8Accesses src s ++ writeR8Accesses dst (s.readR8 src) s) s).mem
      rw [replayWrites_append, replayWrites_readR8Accesses, replayWrites_writeR8Accesses]
  | ldImm dst n => exact next_mem h (replayWrites_writeR8Accesses dst n s).symm
  | inc r => exact next_mem h (writeR8_mem_replay r _ s)
  | dec r => exact next_mem h (writeR8_mem_replay r _ s)
  | rot k r => exact next_mem h (writeR8_mem_replay r _ s)
  | res b r => exact next_mem h (writeR8_mem_replay r _ s)
  | set b r => exact next_mem h (writeR8_mem_replay r _ s)
  | ldIndA m => exact next_mem h (State.stepR16Mem_mem _ _ _)
  | ldAInd m => exact next_mem h (State.stepR16Mem_mem _ _ _)
  | alu op src => exact next_mem h (by cases op <;> exact readR8_mem_replay src s)
  | aluImm op n => exact next_mem h (by cases op <;> rfl)
  | ldPair p n => exact next_mem h (State.writeR16_mem _ _ _)
  | incPair p => exact next_mem h (State.writeR16_mem _ _ _)
  | decPair p => exact next_mem h (State.writeR16_mem _ _ _)
  | push p => exact next_mem h (replayWrites_pushAccesses (s.readR16Stk p) s).symm
  | pop p => exact next_mem h (State.writeR16Stk_mem _ _ _)
  | bit b r => exact next_mem h (readR8_mem_replay r s)
  | jpCond cc n => exact next_mem h (by simp only [jumpIf]; split <;> rfl)
  | jrCond cc e => exact next_mem h (by simp only [jumpRelIf]; split <;> rfl)
  | callCond cc n =>
    refine next_mem h ?_
    show (callSubIf cc n s).mem = (replayWrites (if s.flags.holds cc then pushAccesses s.pc s else []) s).mem
    simp only [callSubIf]
    split
    · exact callSub_mem n s
    · rfl
  | retCond cc =>
    refine next_mem h ?_
    show (returnSubIf cc s).mem = (replayWrites (if s.flags.holds cc then popAccesses s else []) s).mem
    simp only [returnSubIf]
    split <;> rfl
  | call n => exact next_mem h (callSub_mem n s)
  | rst v => exact next_mem h (callSub_mem (restartVector v) s)
  | escape x => exact absurd rfl (hf x)
  | stops k => exact absurd h (stopWith_ne_next k s t)
  | _ => exact next_mem h rfl

/-- A well-formed instruction is not the escape byte's row. -/
theorem form_ne_escape {i : Instr} (h : WellFormed i) (x : Byte) : i.form ≠ .escape x := by
  intro e
  rw [← instr_form i, e] at h
  exact Bool.noConfusion h

/-- The data accesses of a well-formed instruction are those of its form. -/
theorem dataAccesses_eq {i : Instr} (h : WellFormed i) (s : State) : dataAccesses i s = formAccesses i.form s := by
  unfold dataAccesses
  split
  · next e => exact absurd e (form_ne_escape h _)
  · rfl

/-- The data accesses of a form that is no escape byte's row. -/
theorem dataAccesses_instr {f : Form} (h1 : f ≠ .ld .mhl .mhl) (h2 : ∀ x, f ≠ .escape x) (s : State) :
    dataAccesses f.instr s = formAccesses f s := by
  unfold dataAccesses
  rw [form_instr f h1]
  split
  · exact absurd rfl (h2 _)
  · rfl

/-- The `n` fetches from PC on, at increasing addresses. -/
theorem fetchAccesses_eq (n : Nat) (s : State) :
    fetchAccesses n s =
      (List.range n).map fun k => .fetch (s.pc + BitVec.ofNat 16 k) (s.memRead (s.pc + BitVec.ofNat 16 k)) := by
  induction n generalizing s with
  | zero => rfl
  | succ n ih =>
    have assoc (k : Nat) : s.pc + 1#16 + BitVec.ofNat 16 k = s.pc + BitVec.ofNat 16 (k + 1) := by
      rw [BitVec.ofNat_add, BitVec.add_assoc, BitVec.add_comm 1#16]
    simp only [fetchAccesses, State.fetch8, ih, State.setPc_pc, assoc, List.range_succ_eq_map, List.map_cons, List.map_map]
    simp [State.setPc, State.memRead, Function.comp_def]

/-- The memory an instruction leaves is its listed writes replayed on the memory before it. -/
theorem exec_mem {i : Instr} {s t : State} (h : exec i s = .next t) : t.mem = (replayWrites (dataAccesses i s) s).mem := by
  rw [exec_eq_runForm] at h
  unfold dataAccesses
  split
  · next op2 hi =>
    rw [hi] at h
    cases h
    exact runForm_mem (prefixedForm_ne_escape op2) (runForm_prefixedForm op2 s)
  · next hi => exact runForm_mem hi h

/-- Every instruction keeps the canonical form of memory. -/
theorem exec_wf {i : Instr} {s t : State} (hs : s.mem.wf = true) (h : exec i s = .next t) : t.mem.wf = true := by
  rw [exec_mem h]
  exact replayWrites_wf hs _

end Sys2Proof.Machine
end

