-- ==== Sys2Proof/Tests/Slice0.lean ====
section
/-! SUPPORT. The model's own tests: the WellFormed smoke, every row's decoding by a word written from its encoding, one step
each of the spec's worked examples (95_test_vectors.md, derived there from the rules), and a witness for the hypotheses of
every obligation that has some. -/

namespace Sys2Proof.Tests

open Sys2Proof.Machine

/-! ### Helpers -/

/-- The start state of 95_test_vectors.md: every register 0, SP 0xD000. -/
def vectorState : State := { State.reset with sp := 0xD000#16 }

/-- A state with PC at an address and an instruction's bytes there. -/
def startAt (pc : Word) (bytes : List Byte) (s : State) : State := ({ s with pc := pc } : State).hostLoad pc bytes

/-- What one step leaves of what a test looks at. -/
def after {α : Type} (s : State) (look : State → α) : Option α :=
  match step s with
  | .next t => some (look t)
  | _ => none

/-- The fault of one step. -/
def faultOf (s : State) : Option Fault :=
  match step s with
  | .fault r => some r
  | _ => none

/-- Each word decodes to its instruction. -/
def decodesTo (words : List (List Byte × Instr)) : Bool := words.all fun x => decode x.1 = .instr x.2 []

/-! ### WellFormed smoke -/

/-- The one ill-formed term: the escape byte's row "is not itself an instruction" (00_scope.md R8). -/
theorem test_wellFormed_refuses_escape : Instr.wellFormed (.escape_cb 0x00#8) = false := by decide

theorem test_wellFormed_accepts : Instr.wellFormed (.ld_hl_n16 0xFFFF#16) = true ∧ Instr.wellFormed .bit_7_a = true ∧
    Instr.wellFormed .illegal_fd = true := by decide

/-! ### The decoder refuses cut instructions by name -/

theorem test_decode_empty : decode [] = .reject .empty := by decide
theorem test_decode_cut_n16 : decode [0xC3#8, 0x34#8] = .reject (.truncated 0xC3#8) := by decide
theorem test_decode_cut_escape : decode [0xCB#8] = .reject (.truncated 0xCB#8) := by decide

/-! ### Every row by a word written from its encoding in opcode_table.json (30_encoding.md R68, R69, R77) -/

/-- Rows 0x00 to 0x0F. -/
theorem test_decode_base_0 : decodesTo [
    ([0b00000000#8], .nop), ([0b00000001#8, 0xCD#8, 0xAB#8], .ld_bc_n16 0xABCD#16), ([0b00000010#8], .ld_mbc_a),
    ([0b00000011#8], .inc_bc), ([0b00000100#8], .inc_b), ([0b00000101#8], .dec_b),
    ([0b00000110#8, 0xFE#8], .ld_b_n8 0xFE#8), ([0b00000111#8], .rlca),
    ([0b00001000#8, 0xCD#8, 0xAB#8], .ld_mn16_sp 0xABCD#16), ([0b00001001#8], .add_hl_bc), ([0b00001010#8], .ld_a_mbc),
    ([0b00001011#8], .dec_bc), ([0b00001100#8], .inc_c), ([0b00001101#8], .dec_c),
    ([0b00001110#8, 0xFE#8], .ld_c_n8 0xFE#8), ([0b00001111#8], .rrca)] = true := by decide

/-- Rows 0x10 to 0x1F. -/
theorem test_decode_base_1 : decodesTo [
    ([0b00010000#8], .stop), ([0b00010001#8, 0xCD#8, 0xAB#8], .ld_de_n16 0xABCD#16), ([0b00010010#8], .ld_mde_a),
    ([0b00010011#8], .inc_de), ([0b00010100#8], .inc_d), ([0b00010101#8], .dec_d),
    ([0b00010110#8, 0xFE#8], .ld_d_n8 0xFE#8), ([0b00010111#8], .rla), ([0b00011000#8, 0xFE#8], .jr_e8 0xFE#8),
    ([0b00011001#8], .add_hl_de), ([0b00011010#8], .ld_a_mde), ([0b00011011#8], .dec_de), ([0b00011100#8], .inc_e),
    ([0b00011101#8], .dec_e), ([0b00011110#8, 0xFE#8], .ld_e_n8 0xFE#8), ([0b00011111#8], .rra)] = true := by decide

/-- Rows 0x20 to 0x2F. -/
theorem test_decode_base_2 : decodesTo [
    ([0b00100000#8, 0xFE#8], .jr_nz_e8 0xFE#8), ([0b00100001#8, 0xCD#8, 0xAB#8], .ld_hl_n16 0xABCD#16),
    ([0b00100010#8], .ld_mhlInc_a), ([0b00100011#8], .inc_hl), ([0b00100100#8], .inc_h), ([0b00100101#8], .dec_h),
    ([0b00100110#8, 0xFE#8], .ld_h_n8 0xFE#8), ([0b00100111#8], .daa), ([0b00101000#8, 0xFE#8], .jr_z_e8 0xFE#8),
    ([0b00101001#8], .add_hl_hl), ([0b00101010#8], .ld_a_mhlInc), ([0b00101011#8], .dec_hl), ([0b00101100#8], .inc_l),
    ([0b00101101#8], .dec_l), ([0b00101110#8, 0xFE#8], .ld_l_n8 0xFE#8), ([0b00101111#8], .cpl)] = true := by decide

/-- Rows 0x30 to 0x3F. -/
theorem test_decode_base_3 : decodesTo [
    ([0b00110000#8, 0xFE#8], .jr_nc_e8 0xFE#8), ([0b00110001#8, 0xCD#8, 0xAB#8], .ld_sp_n16 0xABCD#16),
    ([0b00110010#8], .ld_mhlDec_a), ([0b00110011#8], .inc_sp), ([0b00110100#8], .inc_mhl), ([0b00110101#8], .dec_mhl),
    ([0b00110110#8, 0xFE#8], .ld_mhl_n8 0xFE#8), ([0b00110111#8], .scf), ([0b00111000#8, 0xFE#8], .jr_c_e8 0xFE#8),
    ([0b00111001#8], .add_hl_sp), ([0b00111010#8], .ld_a_mhlDec), ([0b00111011#8], .dec_sp), ([0b00111100#8], .inc_a),
    ([0b00111101#8], .dec_a), ([0b00111110#8, 0xFE#8], .ld_a_n8 0xFE#8), ([0b00111111#8], .ccf)] = true := by decide

/-- Rows 0x40 to 0x4F. -/
theorem test_decode_base_4 : decodesTo [
    ([0b01000000#8], .ld_b_b), ([0b01000001#8], .ld_b_c), ([0b01000010#8], .ld_b_d), ([0b01000011#8], .ld_b_e),
    ([0b01000100#8], .ld_b_h), ([0b01000101#8], .ld_b_l), ([0b01000110#8], .ld_b_mhl), ([0b01000111#8], .ld_b_a),
    ([0b01001000#8], .ld_c_b), ([0b01001001#8], .ld_c_c), ([0b01001010#8], .ld_c_d), ([0b01001011#8], .ld_c_e),
    ([0b01001100#8], .ld_c_h), ([0b01001101#8], .ld_c_l), ([0b01001110#8], .ld_c_mhl), ([0b01001111#8], .ld_c_a)] = true := by decide

/-- Rows 0x50 to 0x5F. -/
theorem test_decode_base_5 : decodesTo [
    ([0b01010000#8], .ld_d_b), ([0b01010001#8], .ld_d_c), ([0b01010010#8], .ld_d_d), ([0b01010011#8], .ld_d_e),
    ([0b01010100#8], .ld_d_h), ([0b01010101#8], .ld_d_l), ([0b01010110#8], .ld_d_mhl), ([0b01010111#8], .ld_d_a),
    ([0b01011000#8], .ld_e_b), ([0b01011001#8], .ld_e_c), ([0b01011010#8], .ld_e_d), ([0b01011011#8], .ld_e_e),
    ([0b01011100#8], .ld_e_h), ([0b01011101#8], .ld_e_l), ([0b01011110#8], .ld_e_mhl), ([0b01011111#8], .ld_e_a)] = true := by decide

/-- Rows 0x60 to 0x6F. -/
theorem test_decode_base_6 : decodesTo [
    ([0b01100000#8], .ld_h_b), ([0b01100001#8], .ld_h_c), ([0b01100010#8], .ld_h_d), ([0b01100011#8], .ld_h_e),
    ([0b01100100#8], .ld_h_h), ([0b01100101#8], .ld_h_l), ([0b01100110#8], .ld_h_mhl), ([0b01100111#8], .ld_h_a),
    ([0b01101000#8], .ld_l_b), ([0b01101001#8], .ld_l_c), ([0b01101010#8], .ld_l_d), ([0b01101011#8], .ld_l_e),
    ([0b01101100#8], .ld_l_h), ([0b01101101#8], .ld_l_l), ([0b01101110#8], .ld_l_mhl), ([0b01101111#8], .ld_l_a)] = true := by decide

/-- Rows 0x70 to 0x7F. -/
theorem test_decode_base_7 : decodesTo [
    ([0b01110000#8], .ld_mhl_b), ([0b01110001#8], .ld_mhl_c), ([0b01110010#8], .ld_mhl_d), ([0b01110011#8], .ld_mhl_e),
    ([0b01110100#8], .ld_mhl_h), ([0b01110101#8], .ld_mhl_l), ([0b01110110#8], .halt), ([0b01110111#8], .ld_mhl_a),
    ([0b01111000#8], .ld_a_b), ([0b01111001#8], .ld_a_c), ([0b01111010#8], .ld_a_d), ([0b01111011#8], .ld_a_e),
    ([0b01111100#8], .ld_a_h), ([0b01111101#8], .ld_a_l), ([0b01111110#8], .ld_a_mhl), ([0b01111111#8], .ld_a_a)] = true := by decide

/-- Rows 0x80 to 0x8F. -/
theorem test_decode_base_8 : decodesTo [
    ([0b10000000#8], .add_a_b), ([0b10000001#8], .add_a_c), ([0b10000010#8], .add_a_d), ([0b10000011#8], .add_a_e),
    ([0b10000100#8], .add_a_h), ([0b10000101#8], .add_a_l), ([0b10000110#8], .add_a_mhl), ([0b10000111#8], .add_a_a),
    ([0b10001000#8], .adc_a_b), ([0b10001001#8], .adc_a_c), ([0b10001010#8], .adc_a_d), ([0b10001011#8], .adc_a_e),
    ([0b10001100#8], .adc_a_h), ([0b10001101#8], .adc_a_l), ([0b10001110#8], .adc_a_mhl), ([0b10001111#8], .adc_a_a)] = true := by decide

/-- Rows 0x90 to 0x9F. -/
theorem test_decode_base_9 : decodesTo [
    ([0b10010000#8], .sub_b), ([0b10010001#8], .sub_c), ([0b10010010#8], .sub_d), ([0b10010011#8], .sub_e),
    ([0b10010100#8], .sub_h), ([0b10010101#8], .sub_l), ([0b10010110#8], .sub_mhl), ([0b10010111#8], .sub_a),
    ([0b10011000#8], .sbc_a_b), ([0b10011001#8], .sbc_a_c), ([0b10011010#8], .sbc_a_d), ([0b10011011#8], .sbc_a_e),
    ([0b10011100#8], .sbc_a_h), ([0b10011101#8], .sbc_a_l), ([0b10011110#8], .sbc_a_mhl), ([0b10011111#8], .sbc_a_a)] = true := by decide

/-- Rows 0xA0 to 0xAF. -/
theorem test_decode_base_a : decodesTo [
    ([0b10100000#8], .and_b), ([0b10100001#8], .and_c), ([0b10100010#8], .and_d), ([0b10100011#8], .and_e),
    ([0b10100100#8], .and_h), ([0b10100101#8], .and_l), ([0b10100110#8], .and_mhl), ([0b10100111#8], .and_a),
    ([0b10101000#8], .xor_b), ([0b10101001#8], .xor_c), ([0b10101010#8], .xor_d), ([0b10101011#8], .xor_e),
    ([0b10101100#8], .xor_h), ([0b10101101#8], .xor_l), ([0b10101110#8], .xor_mhl), ([0b10101111#8], .xor_a)] = true := by decide

/-- Rows 0xB0 to 0xBF. -/
theorem test_decode_base_b : decodesTo [
    ([0b10110000#8], .or_b), ([0b10110001#8], .or_c), ([0b10110010#8], .or_d), ([0b10110011#8], .or_e),
    ([0b10110100#8], .or_h), ([0b10110101#8], .or_l), ([0b10110110#8], .or_mhl), ([0b10110111#8], .or_a),
    ([0b10111000#8], .cp_b), ([0b10111001#8], .cp_c), ([0b10111010#8], .cp_d), ([0b10111011#8], .cp_e),
    ([0b10111100#8], .cp_h), ([0b10111101#8], .cp_l), ([0b10111110#8], .cp_mhl), ([0b10111111#8], .cp_a)] = true := by decide

/-- Rows 0xC0 to 0xCF. -/
theorem test_decode_base_c : decodesTo [
    ([0b11000000#8], .ret_nz), ([0b11000001#8], .pop_bc), ([0b11000010#8, 0xCD#8, 0xAB#8], .jp_nz_n16 0xABCD#16),
    ([0b11000011#8, 0xCD#8, 0xAB#8], .jp_n16 0xABCD#16), ([0b11000100#8, 0xCD#8, 0xAB#8], .call_nz_n16 0xABCD#16),
    ([0b11000101#8], .push_bc), ([0b11000110#8, 0xFE#8], .add_a_n8 0xFE#8), ([0b11000111#8], .rst_00),
    ([0b11001000#8], .ret_z), ([0b11001001#8], .ret), ([0b11001010#8, 0xCD#8, 0xAB#8], .jp_z_n16 0xABCD#16),
    ([0b11001100#8, 0xCD#8, 0xAB#8], .call_z_n16 0xABCD#16), ([0b11001101#8, 0xCD#8, 0xAB#8], .call_n16 0xABCD#16),
    ([0b11001110#8, 0xFE#8], .adc_a_n8 0xFE#8), ([0b11001111#8], .rst_08)] = true := by decide

/-- Rows 0xD0 to 0xDF. -/
theorem test_decode_base_d : decodesTo [
    ([0b11010000#8], .ret_nc), ([0b11010001#8], .pop_de), ([0b11010010#8, 0xCD#8, 0xAB#8], .jp_nc_n16 0xABCD#16),
    ([0b11010011#8], .illegal_d3), ([0b11010100#8, 0xCD#8, 0xAB#8], .call_nc_n16 0xABCD#16), ([0b11010101#8], .push_de),
    ([0b11010110#8, 0xFE#8], .sub_n8 0xFE#8), ([0b11010111#8], .rst_10), ([0b11011000#8], .ret_c), ([0b11011001#8], .reti),
    ([0b11011010#8, 0xCD#8, 0xAB#8], .jp_c_n16 0xABCD#16), ([0b11011011#8], .illegal_db),
    ([0b11011100#8, 0xCD#8, 0xAB#8], .call_c_n16 0xABCD#16), ([0b11011101#8], .illegal_dd),
    ([0b11011110#8, 0xFE#8], .sbc_a_n8 0xFE#8), ([0b11011111#8], .rst_18)] = true := by decide

/-- Rows 0xE0 to 0xEF. -/
theorem test_decode_base_e : decodesTo [
    ([0b11100000#8, 0xFE#8], .ldh_mn8_a 0xFE#8), ([0b11100001#8], .pop_hl), ([0b11100010#8], .ldh_mc_a),
    ([0b11100011#8], .illegal_e3), ([0b11100100#8], .illegal_e4), ([0b11100101#8], .push_hl),
    ([0b11100110#8, 0xFE#8], .and_n8 0xFE#8), ([0b11100111#8], .rst_20), ([0b11101000#8, 0xFE#8], .add_sp_e8 0xFE#8),
    ([0b11101001#8], .jp_hl), ([0b11101010#8, 0xCD#8, 0xAB#8], .ld_mn16_a 0xABCD#16), ([0b11101011#8], .illegal_eb),
    ([0b11101100#8], .illegal_ec), ([0b11101101#8], .illegal_ed), ([0b11101110#8, 0xFE#8], .xor_n8 0xFE#8),
    ([0b11101111#8], .rst_28)] = true := by decide

/-- Rows 0xF0 to 0xFF. -/
theorem test_decode_base_f : decodesTo [
    ([0b11110000#8, 0xFE#8], .ldh_a_mn8 0xFE#8), ([0b11110001#8], .pop_af), ([0b11110010#8], .ldh_a_mc),
    ([0b11110011#8], .di), ([0b11110100#8], .illegal_f4), ([0b11110101#8], .push_af),
    ([0b11110110#8, 0xFE#8], .or_n8 0xFE#8), ([0b11110111#8], .rst_30), ([0b11111000#8, 0xFE#8], .ld_hl_spe8 0xFE#8),
    ([0b11111001#8], .ld_sp_hl), ([0b11111010#8, 0xCD#8, 0xAB#8], .ld_a_mn16 0xABCD#16), ([0b11111011#8], .ei),
    ([0b11111100#8], .illegal_fc), ([0b11111101#8], .illegal_fd), ([0b11111110#8, 0xFE#8], .cp_n8 0xFE#8),
    ([0b11111111#8], .rst_38)] = true := by decide

/-- Rows 0xCB 0x00 to 0xCB 0x0F. -/
theorem test_decode_prefixed_0 : decodesTo [
    ([0b11001011#8, 0b00000000#8], .rlc_b), ([0b11001011#8, 0b00000001#8], .rlc_c), ([0b11001011#8, 0b00000010#8], .rlc_d),
    ([0b11001011#8, 0b00000011#8], .rlc_e), ([0b11001011#8, 0b00000100#8], .rlc_h), ([0b11001011#8, 0b00000101#8], .rlc_l),
    ([0b11001011#8, 0b00000110#8], .rlc_mhl), ([0b11001011#8, 0b00000111#8], .rlc_a),
    ([0b11001011#8, 0b00001000#8], .rrc_b), ([0b11001011#8, 0b00001001#8], .rrc_c), ([0b11001011#8, 0b00001010#8], .rrc_d),
    ([0b11001011#8, 0b00001011#8], .rrc_e), ([0b11001011#8, 0b00001100#8], .rrc_h), ([0b11001011#8, 0b00001101#8], .rrc_l),
    ([0b11001011#8, 0b00001110#8], .rrc_mhl), ([0b11001011#8, 0b00001111#8], .rrc_a)] = true := by decide

/-- Rows 0xCB 0x10 to 0xCB 0x1F. -/
theorem test_decode_prefixed_1 : decodesTo [
    ([0b11001011#8, 0b00010000#8], .rl_b), ([0b11001011#8, 0b00010001#8], .rl_c), ([0b11001011#8, 0b00010010#8], .rl_d),
    ([0b11001011#8, 0b00010011#8], .rl_e), ([0b11001011#8, 0b00010100#8], .rl_h), ([0b11001011#8, 0b00010101#8], .rl_l),
    ([0b11001011#8, 0b00010110#8], .rl_mhl), ([0b11001011#8, 0b00010111#8], .rl_a), ([0b11001011#8, 0b00011000#8], .rr_b),
    ([0b11001011#8, 0b00011001#8], .rr_c), ([0b11001011#8, 0b00011010#8], .rr_d), ([0b11001011#8, 0b00011011#8], .rr_e),
    ([0b11001011#8, 0b00011100#8], .rr_h), ([0b11001011#8, 0b00011101#8], .rr_l), ([0b11001011#8, 0b00011110#8], .rr_mhl),
    ([0b11001011#8, 0b00011111#8], .rr_a)] = true := by decide

/-- Rows 0xCB 0x20 to 0xCB 0x2F. -/
theorem test_decode_prefixed_2 : decodesTo [
    ([0b11001011#8, 0b00100000#8], .sla_b), ([0b11001011#8, 0b00100001#8], .sla_c), ([0b11001011#8, 0b00100010#8], .sla_d),
    ([0b11001011#8, 0b00100011#8], .sla_e), ([0b11001011#8, 0b00100100#8], .sla_h), ([0b11001011#8, 0b00100101#8], .sla_l),
    ([0b11001011#8, 0b00100110#8], .sla_mhl), ([0b11001011#8, 0b00100111#8], .sla_a),
    ([0b11001011#8, 0b00101000#8], .sra_b), ([0b11001011#8, 0b00101001#8], .sra_c), ([0b11001011#8, 0b00101010#8], .sra_d),
    ([0b11001011#8, 0b00101011#8], .sra_e), ([0b11001011#8, 0b00101100#8], .sra_h), ([0b11001011#8, 0b00101101#8], .sra_l),
    ([0b11001011#8, 0b00101110#8], .sra_mhl), ([0b11001011#8, 0b00101111#8], .sra_a)] = true := by decide

/-- Rows 0xCB 0x30 to 0xCB 0x3F. -/
theorem test_decode_prefixed_3 : decodesTo [
    ([0b11001011#8, 0b00110000#8], .swap_b), ([0b11001011#8, 0b00110001#8], .swap_c),
    ([0b11001011#8, 0b00110010#8], .swap_d), ([0b11001011#8, 0b00110011#8], .swap_e),
    ([0b11001011#8, 0b00110100#8], .swap_h), ([0b11001011#8, 0b00110101#8], .swap_l),
    ([0b11001011#8, 0b00110110#8], .swap_mhl), ([0b11001011#8, 0b00110111#8], .swap_a),
    ([0b11001011#8, 0b00111000#8], .srl_b), ([0b11001011#8, 0b00111001#8], .srl_c), ([0b11001011#8, 0b00111010#8], .srl_d),
    ([0b11001011#8, 0b00111011#8], .srl_e), ([0b11001011#8, 0b00111100#8], .srl_h), ([0b11001011#8, 0b00111101#8], .srl_l),
    ([0b11001011#8, 0b00111110#8], .srl_mhl), ([0b11001011#8, 0b00111111#8], .srl_a)] = true := by decide

/-- Rows 0xCB 0x40 to 0xCB 0x4F. -/
theorem test_decode_prefixed_4 : decodesTo [
    ([0b11001011#8, 0b01000000#8], .bit_0_b), ([0b11001011#8, 0b01000001#8], .bit_0_c),
    ([0b11001011#8, 0b01000010#8], .bit_0_d), ([0b11001011#8, 0b01000011#8], .bit_0_e),
    ([0b11001011#8, 0b01000100#8], .bit_0_h), ([0b11001011#8, 0b01000101#8], .bit_0_l),
    ([0b11001011#8, 0b01000110#8], .bit_0_mhl), ([0b11001011#8, 0b01000111#8], .bit_0_a),
    ([0b11001011#8, 0b01001000#8], .bit_1_b), ([0b11001011#8, 0b01001001#8], .bit_1_c),
    ([0b11001011#8, 0b01001010#8], .bit_1_d), ([0b11001011#8, 0b01001011#8], .bit_1_e),
    ([0b11001011#8, 0b01001100#8], .bit_1_h), ([0b11001011#8, 0b01001101#8], .bit_1_l),
    ([0b11001011#8, 0b01001110#8], .bit_1_mhl), ([0b11001011#8, 0b01001111#8], .bit_1_a)] = true := by decide

/-- Rows 0xCB 0x50 to 0xCB 0x5F. -/
theorem test_decode_prefixed_5 : decodesTo [
    ([0b11001011#8, 0b01010000#8], .bit_2_b), ([0b11001011#8, 0b01010001#8], .bit_2_c),
    ([0b11001011#8, 0b01010010#8], .bit_2_d), ([0b11001011#8, 0b01010011#8], .bit_2_e),
    ([0b11001011#8, 0b01010100#8], .bit_2_h), ([0b11001011#8, 0b01010101#8], .bit_2_l),
    ([0b11001011#8, 0b01010110#8], .bit_2_mhl), ([0b11001011#8, 0b01010111#8], .bit_2_a),
    ([0b11001011#8, 0b01011000#8], .bit_3_b), ([0b11001011#8, 0b01011001#8], .bit_3_c),
    ([0b11001011#8, 0b01011010#8], .bit_3_d), ([0b11001011#8, 0b01011011#8], .bit_3_e),
    ([0b11001011#8, 0b01011100#8], .bit_3_h), ([0b11001011#8, 0b01011101#8], .bit_3_l),
    ([0b11001011#8, 0b01011110#8], .bit_3_mhl), ([0b11001011#8, 0b01011111#8], .bit_3_a)] = true := by decide

/-- Rows 0xCB 0x60 to 0xCB 0x6F. -/
theorem test_decode_prefixed_6 : decodesTo [
    ([0b11001011#8, 0b01100000#8], .bit_4_b), ([0b11001011#8, 0b01100001#8], .bit_4_c),
    ([0b11001011#8, 0b01100010#8], .bit_4_d), ([0b11001011#8, 0b01100011#8], .bit_4_e),
    ([0b11001011#8, 0b01100100#8], .bit_4_h), ([0b11001011#8, 0b01100101#8], .bit_4_l),
    ([0b11001011#8, 0b01100110#8], .bit_4_mhl), ([0b11001011#8, 0b01100111#8], .bit_4_a),
    ([0b11001011#8, 0b01101000#8], .bit_5_b), ([0b11001011#8, 0b01101001#8], .bit_5_c),
    ([0b11001011#8, 0b01101010#8], .bit_5_d), ([0b11001011#8, 0b01101011#8], .bit_5_e),
    ([0b11001011#8, 0b01101100#8], .bit_5_h), ([0b11001011#8, 0b01101101#8], .bit_5_l),
    ([0b11001011#8, 0b01101110#8], .bit_5_mhl), ([0b11001011#8, 0b01101111#8], .bit_5_a)] = true := by decide

/-- Rows 0xCB 0x70 to 0xCB 0x7F. -/
theorem test_decode_prefixed_7 : decodesTo [
    ([0b11001011#8, 0b01110000#8], .bit_6_b), ([0b11001011#8, 0b01110001#8], .bit_6_c),
    ([0b11001011#8, 0b01110010#8], .bit_6_d), ([0b11001011#8, 0b01110011#8], .bit_6_e),
    ([0b11001011#8, 0b01110100#8], .bit_6_h), ([0b11001011#8, 0b01110101#8], .bit_6_l),
    ([0b11001011#8, 0b01110110#8], .bit_6_mhl), ([0b11001011#8, 0b01110111#8], .bit_6_a),
    ([0b11001011#8, 0b01111000#8], .bit_7_b), ([0b11001011#8, 0b01111001#8], .bit_7_c),
    ([0b11001011#8, 0b01111010#8], .bit_7_d), ([0b11001011#8, 0b01111011#8], .bit_7_e),
    ([0b11001011#8, 0b01111100#8], .bit_7_h), ([0b11001011#8, 0b01111101#8], .bit_7_l),
    ([0b11001011#8, 0b01111110#8], .bit_7_mhl), ([0b11001011#8, 0b01111111#8], .bit_7_a)] = true := by decide

/-- Rows 0xCB 0x80 to 0xCB 0x8F. -/
theorem test_decode_prefixed_8 : decodesTo [
    ([0b11001011#8, 0b10000000#8], .res_0_b), ([0b11001011#8, 0b10000001#8], .res_0_c),
    ([0b11001011#8, 0b10000010#8], .res_0_d), ([0b11001011#8, 0b10000011#8], .res_0_e),
    ([0b11001011#8, 0b10000100#8], .res_0_h), ([0b11001011#8, 0b10000101#8], .res_0_l),
    ([0b11001011#8, 0b10000110#8], .res_0_mhl), ([0b11001011#8, 0b10000111#8], .res_0_a),
    ([0b11001011#8, 0b10001000#8], .res_1_b), ([0b11001011#8, 0b10001001#8], .res_1_c),
    ([0b11001011#8, 0b10001010#8], .res_1_d), ([0b11001011#8, 0b10001011#8], .res_1_e),
    ([0b11001011#8, 0b10001100#8], .res_1_h), ([0b11001011#8, 0b10001101#8], .res_1_l),
    ([0b11001011#8, 0b10001110#8], .res_1_mhl), ([0b11001011#8, 0b10001111#8], .res_1_a)] = true := by decide

/-- Rows 0xCB 0x90 to 0xCB 0x9F. -/
theorem test_decode_prefixed_9 : decodesTo [
    ([0b11001011#8, 0b10010000#8], .res_2_b), ([0b11001011#8, 0b10010001#8], .res_2_c),
    ([0b11001011#8, 0b10010010#8], .res_2_d), ([0b11001011#8, 0b10010011#8], .res_2_e),
    ([0b11001011#8, 0b10010100#8], .res_2_h), ([0b11001011#8, 0b10010101#8], .res_2_l),
    ([0b11001011#8, 0b10010110#8], .res_2_mhl), ([0b11001011#8, 0b10010111#8], .res_2_a),
    ([0b11001011#8, 0b10011000#8], .res_3_b), ([0b11001011#8, 0b10011001#8], .res_3_c),
    ([0b11001011#8, 0b10011010#8], .res_3_d), ([0b11001011#8, 0b10011011#8], .res_3_e),
    ([0b11001011#8, 0b10011100#8], .res_3_h), ([0b11001011#8, 0b10011101#8], .res_3_l),
    ([0b11001011#8, 0b10011110#8], .res_3_mhl), ([0b11001011#8, 0b10011111#8], .res_3_a)] = true := by decide

/-- Rows 0xCB 0xA0 to 0xCB 0xAF. -/
theorem test_decode_prefixed_a : decodesTo [
    ([0b11001011#8, 0b10100000#8], .res_4_b), ([0b11001011#8, 0b10100001#8], .res_4_c),
    ([0b11001011#8, 0b10100010#8], .res_4_d), ([0b11001011#8, 0b10100011#8], .res_4_e),
    ([0b11001011#8, 0b10100100#8], .res_4_h), ([0b11001011#8, 0b10100101#8], .res_4_l),
    ([0b11001011#8, 0b10100110#8], .res_4_mhl), ([0b11001011#8, 0b10100111#8], .res_4_a),
    ([0b11001011#8, 0b10101000#8], .res_5_b), ([0b11001011#8, 0b10101001#8], .res_5_c),
    ([0b11001011#8, 0b10101010#8], .res_5_d), ([0b11001011#8, 0b10101011#8], .res_5_e),
    ([0b11001011#8, 0b10101100#8], .res_5_h), ([0b11001011#8, 0b10101101#8], .res_5_l),
    ([0b11001011#8, 0b10101110#8], .res_5_mhl), ([0b11001011#8, 0b10101111#8], .res_5_a)] = true := by decide

/-- Rows 0xCB 0xB0 to 0xCB 0xBF. -/
theorem test_decode_prefixed_b : decodesTo [
    ([0b11001011#8, 0b10110000#8], .res_6_b), ([0b11001011#8, 0b10110001#8], .res_6_c),
    ([0b11001011#8, 0b10110010#8], .res_6_d), ([0b11001011#8, 0b10110011#8], .res_6_e),
    ([0b11001011#8, 0b10110100#8], .res_6_h), ([0b11001011#8, 0b10110101#8], .res_6_l),
    ([0b11001011#8, 0b10110110#8], .res_6_mhl), ([0b11001011#8, 0b10110111#8], .res_6_a),
    ([0b11001011#8, 0b10111000#8], .res_7_b), ([0b11001011#8, 0b10111001#8], .res_7_c),
    ([0b11001011#8, 0b10111010#8], .res_7_d), ([0b11001011#8, 0b10111011#8], .res_7_e),
    ([0b11001011#8, 0b10111100#8], .res_7_h), ([0b11001011#8, 0b10111101#8], .res_7_l),
    ([0b11001011#8, 0b10111110#8], .res_7_mhl), ([0b11001011#8, 0b10111111#8], .res_7_a)] = true := by decide

/-- Rows 0xCB 0xC0 to 0xCB 0xCF. -/
theorem test_decode_prefixed_c : decodesTo [
    ([0b11001011#8, 0b11000000#8], .set_0_b), ([0b11001011#8, 0b11000001#8], .set_0_c),
    ([0b11001011#8, 0b11000010#8], .set_0_d), ([0b11001011#8, 0b11000011#8], .set_0_e),
    ([0b11001011#8, 0b11000100#8], .set_0_h), ([0b11001011#8, 0b11000101#8], .set_0_l),
    ([0b11001011#8, 0b11000110#8], .set_0_mhl), ([0b11001011#8, 0b11000111#8], .set_0_a),
    ([0b11001011#8, 0b11001000#8], .set_1_b), ([0b11001011#8, 0b11001001#8], .set_1_c),
    ([0b11001011#8, 0b11001010#8], .set_1_d), ([0b11001011#8, 0b11001011#8], .set_1_e),
    ([0b11001011#8, 0b11001100#8], .set_1_h), ([0b11001011#8, 0b11001101#8], .set_1_l),
    ([0b11001011#8, 0b11001110#8], .set_1_mhl), ([0b11001011#8, 0b11001111#8], .set_1_a)] = true := by decide

/-- Rows 0xCB 0xD0 to 0xCB 0xDF. -/
theorem test_decode_prefixed_d : decodesTo [
    ([0b11001011#8, 0b11010000#8], .set_2_b), ([0b11001011#8, 0b11010001#8], .set_2_c),
    ([0b11001011#8, 0b11010010#8], .set_2_d), ([0b11001011#8, 0b11010011#8], .set_2_e),
    ([0b11001011#8, 0b11010100#8], .set_2_h), ([0b11001011#8, 0b11010101#8], .set_2_l),
    ([0b11001011#8, 0b11010110#8], .set_2_mhl), ([0b11001011#8, 0b11010111#8], .set_2_a),
    ([0b11001011#8, 0b11011000#8], .set_3_b), ([0b11001011#8, 0b11011001#8], .set_3_c),
    ([0b11001011#8, 0b11011010#8], .set_3_d), ([0b11001011#8, 0b11011011#8], .set_3_e),
    ([0b11001011#8, 0b11011100#8], .set_3_h), ([0b11001011#8, 0b11011101#8], .set_3_l),
    ([0b11001011#8, 0b11011110#8], .set_3_mhl), ([0b11001011#8, 0b11011111#8], .set_3_a)] = true := by decide

/-- Rows 0xCB 0xE0 to 0xCB 0xEF. -/
theorem test_decode_prefixed_e : decodesTo [
    ([0b11001011#8, 0b11100000#8], .set_4_b), ([0b11001011#8, 0b11100001#8], .set_4_c),
    ([0b11001011#8, 0b11100010#8], .set_4_d), ([0b11001011#8, 0b11100011#8], .set_4_e),
    ([0b11001011#8, 0b11100100#8], .set_4_h), ([0b11001011#8, 0b11100101#8], .set_4_l),
    ([0b11001011#8, 0b11100110#8], .set_4_mhl), ([0b11001011#8, 0b11100111#8], .set_4_a),
    ([0b11001011#8, 0b11101000#8], .set_5_b), ([0b11001011#8, 0b11101001#8], .set_5_c),
    ([0b11001011#8, 0b11101010#8], .set_5_d), ([0b11001011#8, 0b11101011#8], .set_5_e),
    ([0b11001011#8, 0b11101100#8], .set_5_h), ([0b11001011#8, 0b11101101#8], .set_5_l),
    ([0b11001011#8, 0b11101110#8], .set_5_mhl), ([0b11001011#8, 0b11101111#8], .set_5_a)] = true := by decide

/-- Rows 0xCB 0xF0 to 0xCB 0xFF. -/
theorem test_decode_prefixed_f : decodesTo [
    ([0b11001011#8, 0b11110000#8], .set_6_b), ([0b11001011#8, 0b11110001#8], .set_6_c),
    ([0b11001011#8, 0b11110010#8], .set_6_d), ([0b11001011#8, 0b11110011#8], .set_6_e),
    ([0b11001011#8, 0b11110100#8], .set_6_h), ([0b11001011#8, 0b11110101#8], .set_6_l),
    ([0b11001011#8, 0b11110110#8], .set_6_mhl), ([0b11001011#8, 0b11110111#8], .set_6_a),
    ([0b11001011#8, 0b11111000#8], .set_7_b), ([0b11001011#8, 0b11111001#8], .set_7_c),
    ([0b11001011#8, 0b11111010#8], .set_7_d), ([0b11001011#8, 0b11111011#8], .set_7_e),
    ([0b11001011#8, 0b11111100#8], .set_7_h), ([0b11001011#8, 0b11111101#8], .set_7_l),
    ([0b11001011#8, 0b11111110#8], .set_7_mhl), ([0b11001011#8, 0b11111111#8], .set_7_a)] = true := by decide

/-! ### The words of the host's table (log entry 8) -/

theorem test_tableWord_base : decodeTableWord 8 0x3E = some (.ld_a_n8 0x00#8) := by decide
theorem test_tableWord_prefixed : decodeTableWord 16 0xCB7C = some .bit_7_h := by decide
theorem test_fetchWord_base : (State.reset.withFetchWord 8 0x3C).fetchDecode.1 = .instr .inc_a [] := by decide
theorem test_fetchWord_prefixed : (State.reset.withFetchWord 16 0xCB37).fetchDecode.1 = .instr .swap_a [] := by decide

/-! ### One step each: the vectors of 95_test_vectors.md -/

/-- V1-3: `LD H,L`. -/
theorem test_ld_r_r :
    after (startAt 0x0100#16 [0x65#8] { vectorState with h := 0x12#8, l := 0xAB#8 })
        (fun t => (t.h, t.l, t.f, t.pc)) =
      some (0xAB#8, 0xAB#8, 0x00#8, 0x0101#16) := by decide

/-- V1-4: `LD E,0xFF`. -/
theorem test_ld_r_n8 :
    after (startAt 0x0100#16 [0x1E#8, 0xFF#8] vectorState)
        (fun t => (t.e, t.f, t.pc)) =
      some (0xFF#8, 0x00#8, 0x0102#16) := by decide

/-- V1-5: `LD L,(HL)`. -/
theorem test_ld_l_hl :
    after (startAt 0x0100#16 [0x6E#8] (({ vectorState with h := 0xC0#8 }).memWrite 0xC000#16 0x5A#8))
        (fun t => (t.h, t.l, t.pc)) =
      some (0xC0#8, 0x5A#8, 0x0101#16) := by decide

/-- V1-7: `LD (HL),H`. -/
theorem test_ld_hl_h :
    after (startAt 0x0100#16 [0x74#8] { vectorState with h := 0xC1#8, l := 0x23#8 })
        (fun t => (t.memRead 0xC123#16, t.h, t.l)) =
      some (0xC1#8, 0xC1#8, 0x23#8) := by decide

/-- V1-9: `LD (HL),0x7F` at its own immediate. -/
theorem test_ld_hl_n8_on_itself :
    after (startAt 0x0100#16 [0x36#8, 0x7F#8] { vectorState with h := 0x01#8, l := 0x01#8 })
        (fun t => (t.memRead 0x0101#16, t.pc)) =
      some (0x7F#8, 0x0102#16) := by decide

/-- V1-10: `LD A,(BC)`. -/
theorem test_ld_a_bc :
    after (startAt 0x0100#16 [0x0A#8] (({ vectorState with b := 0x80#8, c := 0x01#8 }).memWrite 0x8001#16 0x42#8))
        (fun t => (t.a, t.b, t.c)) =
      some (0x42#8, 0x80#8, 0x01#8) := by decide

/-- V1-11: `LD (DE),A`. -/
theorem test_ld_de_a :
    after (startAt 0x0100#16 [0x12#8] { vectorState with d := 0xC0#8, e := 0x11#8, a := 0x01#8 })
        (fun t => (t.memRead 0xC011#16, t.pc)) =
      some (0x01#8, 0x0101#16) := by decide

/-- V1-13: `LDH (C),A`. -/
theorem test_ldh_c_a :
    after (startAt 0x0100#16 [0xE2#8] { vectorState with c := 0xFF#8, a := 0x3C#8 })
        (fun t => (t.memRead 0xFFFF#16, t.pc)) =
      some (0x3C#8, 0x0101#16) := by decide

/-- V1-14: `LDH A,(0x85)`. -/
theorem test_ldh_a_n8 :
    after (startAt 0x0100#16 [0xF0#8, 0x85#8] (vectorState.memWrite 0xFF85#16 0x01#8))
        (fun t => (t.a, t.pc)) =
      some (0x01#8, 0x0102#16) := by decide

/-- V1-16: `LD A,(0x1234)`. -/
theorem test_ld_a_n16 :
    after (startAt 0x0100#16 [0xFA#8, 0x34#8, 0x12#8] (vectorState.memWrite 0x1234#16 0x9C#8))
        (fun t => (t.a, t.pc)) =
      some (0x9C#8, 0x0103#16) := by decide

/-- V1-17: `LD (0xFFFF),A`. -/
theorem test_ld_n16_a :
    after (startAt 0x0100#16 [0xEA#8, 0xFF#8, 0xFF#8] { vectorState with a := 0x55#8 })
        (fun t => (t.memRead 0xFFFF#16, t.pc)) =
      some (0x55#8, 0x0103#16) := by decide

/-- V1-18: `LD (HL+),A`, HL wraps. -/
theorem test_ld_hlInc_a :
    after (startAt 0x0100#16 [0x22#8] { vectorState with h := 0xFF#8, l := 0xFF#8, a := 0xAA#8 })
        (fun t => (t.memRead 0xFFFF#16, t.hl)) =
      some (0xAA#8, 0x0000#16) := by decide

/-- V1-21: `LD A,(HL-)`. -/
theorem test_ld_a_hlDec :
    after (startAt 0x0100#16 [0x3A#8] (({ vectorState with h := 0xC0#8, l := 0x05#8 }).memWrite 0xC005#16 0x33#8))
        (fun t => (t.a, t.hl)) =
      some (0x33#8, 0xC004#16) := by decide

/-- V2-1: `LD HL,0xABCD`. -/
theorem test_ld_hl_n16 :
    after (startAt 0x0100#16 [0x21#8, 0xCD#8, 0xAB#8] vectorState)
        (fun t => (t.h, t.l, t.pc)) =
      some (0xAB#8, 0xCD#8, 0x0103#16) := by decide

/-- V2-4: `LD (0xFFFF),SP`, across the wrap. -/
theorem test_ld_n16_sp :
    after (startAt 0x0100#16 [0x08#8, 0xFF#8, 0xFF#8] { vectorState with sp := 0x1234#16 })
        (fun t => (t.memRead 0xFFFF#16, t.memRead 0x0000#16, t.sp)) =
      some (0x34#8, 0x12#8, 0x1234#16) := by decide

/-- V2-5: `LD SP,HL`. -/
theorem test_ld_sp_hl :
    after (startAt 0x0100#16 [0xF9#8] { vectorState with h := 0xC8#8 })
        (fun t => (t.sp, t.pc)) =
      some (0xC800#16, 0x0101#16) := by decide

/-- V2-7: `PUSH AF`. -/
theorem test_push_af :
    after (startAt 0x0100#16 [0xF5#8] { vectorState with a := 0x9A#8, flags := Flags.ofByte 0xB0#8 })
        (fun t => (t.memRead 0xCFFF#16, t.memRead 0xCFFE#16, t.sp)) =
      some (0x9A#8, 0xB0#8, 0xCFFE#16) := by decide

/-- V2-11: `PUSH HL`, across the wrap. -/
theorem test_push_hl :
    after (startAt 0x0100#16 [0xE5#8] { vectorState with h := 0xA1#8, l := 0xB2#8, sp := 0x0001#16 })
        (fun t => (t.memRead 0x0000#16, t.memRead 0xFFFF#16, t.sp)) =
      some (0xA1#8, 0xB2#8, 0xFFFF#16) := by decide

/-- V2-9: `POP AF`, low nibble discarded. -/
theorem test_pop_af :
    after (startAt 0x0100#16 [0xF1#8] ((({ vectorState with sp := 0xCFFE#16 }).memWrite 0xCFFE#16 0xFF#8).memWrite 0xCFFF#16 0x12#8))
        (fun t => (t.a, t.f, t.sp)) =
      some (0x12#8, 0xF0#8, 0xD000#16) := by decide

/-- V2-12: `POP BC`, across the wrap. -/
theorem test_pop_bc :
    after (startAt 0x0100#16 [0xC1#8] ((({ vectorState with sp := 0xFFFF#16 }).memWrite 0xFFFF#16 0x11#8).memWrite 0x0000#16 0x22#8))
        (fun t => (t.b, t.c, t.sp)) =
      some (0x22#8, 0x11#8, 0x0001#16) := by decide

/-- V2-13: `LD HL,SP+0x08`. -/
theorem test_ld_hl_sp_plus :
    after (startAt 0x0100#16 [0xF8#8, 0x08#8] { vectorState with sp := 0xFFF8#16, flags := Flags.ofByte 0xC0#8 })
        (fun t => (t.hl, t.f, t.sp)) =
      some (0x0000#16, 0x30#8, 0xFFF8#16) := by decide

/-- V2-17: `LD HL,SP-128`. -/
theorem test_ld_hl_sp_minus :
    after (startAt 0x0100#16 [0xF8#8, 0x80#8] { vectorState with sp := 0x0100#16 })
        (fun t => (t.hl, t.f)) =
      some (0x0080#16, 0x10#8) := by decide

/-- V3-1: `ADD A,B`. -/
theorem test_add_a_b :
    after (startAt 0x0100#16 [0x80#8] { vectorState with a := 0x3A#8, b := 0xC6#8 })
        (fun t => (t.a, t.f, t.pc)) =
      some (0x00#8, 0xB0#8, 0x0101#16) := by decide

/-- V3-5: `ADC A,E`. -/
theorem test_adc_a_e :
    after (startAt 0x0100#16 [0x8B#8] { vectorState with a := 0xE1#8, e := 0x0F#8, flags := Flags.ofByte 0x10#8 })
        (fun t => (t.a, t.f)) =
      some (0xF1#8, 0x20#8) := by decide

/-- V3-9: `ADC A,0xFF` without carry. -/
theorem test_adc_a_n8 :
    after (startAt 0x0100#16 [0xCE#8, 0xFF#8] vectorState)
        (fun t => (t.a, t.f)) =
      some (0xFF#8, 0x00#8) := by decide

/-- V3-12: `SUB 0x0F`. -/
theorem test_sub_n8 :
    after (startAt 0x0100#16 [0xD6#8, 0x0F#8] { vectorState with a := 0x3E#8 })
        (fun t => (t.a, t.f)) =
      some (0x2F#8, 0x60#8) := by decide

/-- V3-16: `SBC A,0xFF`, a borrow of 256. -/
theorem test_sbc_a_n8 :
    after (startAt 0x0100#16 [0xDE#8, 0xFF#8] { vectorState with flags := Flags.ofByte 0x10#8 })
        (fun t => (t.a, t.f)) =
      some (0x00#8, 0xF0#8) := by decide

/-- V3-17: `SBC A,A`. -/
theorem test_sbc_a_a :
    after (startAt 0x0100#16 [0x9F#8] { vectorState with a := 0x77#8, flags := Flags.ofByte 0x10#8 })
        (fun t => (t.a, t.f)) =
      some (0xFF#8, 0x70#8) := by decide

/-- V3-19: `AND L`. -/
theorem test_and_l :
    after (startAt 0x0100#16 [0xA5#8] { vectorState with a := 0x5A#8, l := 0x3F#8, flags := Flags.ofByte 0xF0#8 })
        (fun t => (t.a, t.f)) =
      some (0x1A#8, 0x00#8) := by decide

/-- V3-22: `XOR A`. -/
theorem test_xor_a :
    after (startAt 0x0100#16 [0xAF#8] { vectorState with a := 0x9C#8, flags := Flags.ofByte 0x70#8 })
        (fun t => (t.a, t.f)) =
      some (0x00#8, 0x80#8) := by decide

/-- V3-25: `OR 0x03`. -/
theorem test_or_n8 :
    after (startAt 0x0100#16 [0xF6#8, 0x03#8] { vectorState with a := 0x5A#8 })
        (fun t => (t.a, t.f)) =
      some (0x5B#8, 0x00#8) := by decide

/-- V3-28: `CP 0x40`. -/
theorem test_cp_n8 :
    after (startAt 0x0100#16 [0xFE#8, 0x40#8] { vectorState with a := 0x3C#8 })
        (fun t => (t.a, t.f)) =
      some (0x3C#8, 0x50#8) := by decide

/-- E1: the source's INC A scenario, C kept. -/
theorem test_inc_a :
    after (startAt 0x0100#16 [0x3C#8] { vectorState with a := 0x0F#8, flags := Flags.ofByte 0x70#8 })
        (fun t => (t.a, t.f, t.pc)) =
      some (0x10#8, 0x30#8, 0x0101#16) := by decide

/-- V3-36: `DEC (HL)`. -/
theorem test_dec_hl :
    after (startAt 0x0100#16 [0x35#8] { vectorState with h := 0xC0#8, flags := Flags.ofByte 0x10#8 })
        (fun t => (t.memRead 0xC000#16, t.f)) =
      some (0xFF#8, 0x70#8) := by decide

/-- V3-38: `CPL`. -/
theorem test_cpl :
    after (startAt 0x0100#16 [0x2F#8] { vectorState with a := 0x35#8, flags := Flags.ofByte 0x90#8 })
        (fun t => (t.a, t.f)) =
      some (0xCA#8, 0xF0#8) := by decide

/-- V3-39: `SCF`. -/
theorem test_scf :
    after (startAt 0x0100#16 [0x37#8] { vectorState with flags := Flags.ofByte 0xE0#8 })
        (fun t => (t.f, t.pc)) =
      some (0x90#8, 0x0101#16) := by decide

/-- V3-40: `CCF`. -/
theorem test_ccf :
    after (startAt 0x0100#16 [0x3F#8] { vectorState with flags := Flags.ofByte 0x70#8 })
        (fun t => (t.f, t.pc)) =
      some (0x00#8, 0x0101#16) := by decide

/-- V4-1: `ADD HL,BC`. -/
theorem test_add_hl_bc :
    after (startAt 0x0100#16 [0x09#8] { vectorState with h := 0x8A#8, l := 0x23#8, b := 0x06#8, c := 0x05#8, flags := Flags.ofByte 0xC0#8 })
        (fun t => (t.hl, t.f)) =
      some (0x9028#16, 0xA0#8) := by decide

/-- V4-5: `INC DE`. -/
theorem test_inc_de :
    after (startAt 0x0100#16 [0x13#8] { vectorState with d := 0xFF#8, e := 0xFF#8 })
        (fun t => (t.de, t.f)) =
      some (0x0000#16, 0x00#8) := by decide

/-- V4-7: `DEC BC`. -/
theorem test_dec_bc :
    after (startAt 0x0100#16 [0x0B#8] vectorState)
        (fun t => (t.bc, t.f)) =
      some (0xFFFF#16, 0x00#8) := by decide

/-- V4-12: `ADD SP,-1`. -/
theorem test_add_sp :
    after (startAt 0x0100#16 [0xE8#8, 0xFF#8] { vectorState with sp := 0x0000#16 })
        (fun t => (t.sp, t.f, t.pc)) =
      some (0xFFFF#16, 0x30#8, 0x0102#16) := by decide

/-- V5-1: `RLCA`. -/
theorem test_rlca :
    after (startAt 0x0100#16 [0x07#8] { vectorState with a := 0x85#8 })
        (fun t => (t.a, t.f)) =
      some (0x0B#8, 0x10#8) := by decide

/-- V5-3: `RLA`. -/
theorem test_rla :
    after (startAt 0x0100#16 [0x17#8] { vectorState with a := 0x95#8, flags := Flags.ofByte 0x10#8 })
        (fun t => (t.a, t.f)) =
      some (0x2B#8, 0x10#8) := by decide

/-- V5-5: `RRCA`. -/
theorem test_rrca :
    after (startAt 0x0100#16 [0x0F#8] { vectorState with a := 0x3B#8 })
        (fun t => (t.a, t.f)) =
      some (0x9D#8, 0x10#8) := by decide

/-- V5-6: `RRA`. -/
theorem test_rra :
    after (startAt 0x0100#16 [0x1F#8] { vectorState with a := 0x81#8 })
        (fun t => (t.a, t.f)) =
      some (0x40#8, 0x10#8) := by decide

/-- V5-9: `RLC A`, Z of the result. -/
theorem test_rlc_a :
    after (startAt 0x0100#16 [0xCB#8, 0x07#8] { vectorState with flags := Flags.ofByte 0xF0#8 })
        (fun t => (t.a, t.f, t.pc)) =
      some (0x00#8, 0x80#8, 0x0102#16) := by decide

/-- V5-10: `RRC C`. -/
theorem test_rrc_c :
    after (startAt 0x0100#16 [0xCB#8, 0x09#8] { vectorState with c := 0x01#8 })
        (fun t => (t.c, t.f)) =
      some (0x80#8, 0x10#8) := by decide

/-- V5-12: `RL D`. -/
theorem test_rl_d :
    after (startAt 0x0100#16 [0xCB#8, 0x12#8] { vectorState with flags := Flags.ofByte 0x10#8 })
        (fun t => (t.d, t.f)) =
      some (0x01#8, 0x00#8) := by decide

/-- V5-14: `RR E`. -/
theorem test_rr_e :
    after (startAt 0x0100#16 [0xCB#8, 0x1B#8] { vectorState with flags := Flags.ofByte 0x10#8 })
        (fun t => (t.e, t.f)) =
      some (0x80#8, 0x00#8) := by decide

/-- V5-15: `SLA D`. -/
theorem test_sla_d :
    after (startAt 0x0100#16 [0xCB#8, 0x22#8] { vectorState with d := 0x80#8 })
        (fun t => (t.d, t.f)) =
      some (0x00#8, 0x90#8) := by decide

/-- V5-17: `SRA A`. -/
theorem test_sra_a :
    after (startAt 0x0100#16 [0xCB#8, 0x2F#8] { vectorState with a := 0x8A#8 })
        (fun t => (t.a, t.f)) =
      some (0xC5#8, 0x00#8) := by decide

/-- V5-20: `SWAP (HL)`. -/
theorem test_swap_hl :
    after (startAt 0x0100#16 [0xCB#8, 0x36#8] (({ vectorState with h := 0xC0#8, flags := Flags.ofByte 0xF0#8 }).memWrite 0xC000#16 0xF0#8))
        (fun t => (t.memRead 0xC000#16, t.f)) =
      some (0x0F#8, 0x00#8) := by decide

/-- V5-23: `SRL (HL)`. -/
theorem test_srl_hl :
    after (startAt 0x0100#16 [0xCB#8, 0x3E#8] (({ vectorState with h := 0xC0#8 }).memWrite 0xC000#16 0xFF#8))
        (fun t => (t.memRead 0xC000#16, t.f)) =
      some (0x7F#8, 0x10#8) := by decide

/-- V6-2: `BIT 4,L`. -/
theorem test_bit_4_l :
    after (startAt 0x0100#16 [0xCB#8, 0x65#8] { vectorState with l := 0xEF#8 })
        (fun t => (t.l, t.f)) =
      some (0xEF#8, 0xA0#8) := by decide

/-- V6-5: `RES 7,A`. -/
theorem test_res_7_a :
    after (startAt 0x0100#16 [0xCB#8, 0xBF#8] { vectorState with a := 0x80#8, flags := Flags.ofByte 0xF0#8 })
        (fun t => (t.a, t.f)) =
      some (0x00#8, 0xF0#8) := by decide

/-- V6-7: `SET 3,(HL)`. -/
theorem test_set_3_hl :
    after (startAt 0x0100#16 [0xCB#8, 0xDE#8] { vectorState with h := 0xC0#8 })
        (fun t => (t.memRead 0xC000#16, t.pc)) =
      some (0x08#8, 0x0102#16) := by decide

/-- V7-4: `JP C,0x1234`, taken. -/
theorem test_jp_c :
    after (startAt 0x0200#16 [0xDA#8, 0x34#8, 0x12#8] { vectorState with flags := Flags.ofByte 0x10#8 })
        (fun t => (t.pc, t.f)) =
      some (0x1234#16, 0x10#8) := by decide

/-- E3: `JP NZ,0x1234`, not taken. -/
theorem test_jp_nz_not_taken :
    after (startAt 0x0200#16 [0xC2#8, 0x34#8, 0x12#8] { vectorState with flags := Flags.ofByte 0x80#8 })
        (fun t => (t.pc, t.f)) =
      some (0x0203#16, 0x80#8) := by decide

/-- V7-6: `JP HL`. -/
theorem test_jp_hl :
    after (startAt 0x0100#16 [0xE9#8] { vectorState with h := 0x40#8 })
        (fun t => (t.pc, t.h)) =
      some (0x4000#16, 0x40#8) := by decide

/-- E2a: `JR +127`. -/
theorem test_jr_forward :
    after (startAt 0x1233#16 [0x18#8, 0x7F#8] vectorState)
        (fun t => (t.pc, t.f)) =
      some (0x12B4#16, 0x00#8) := by decide

/-- V7-9: `JR -128`, across the wrap. -/
theorem test_jr_back :
    after (startAt 0x0010#16 [0x18#8, 0x80#8] vectorState)
        (fun t => (t.pc, t.f)) =
      some (0xFF92#16, 0x00#8) := by decide

/-- V7-10: `JR NZ,-5`, taken. -/
theorem test_jr_nz :
    after (startAt 0x0150#16 [0x20#8, 0xFB#8] vectorState)
        (fun t => (t.pc, t.f)) =
      some (0x014D#16, 0x00#8) := by decide

/-- V7-12: `CALL 0x3000`. -/
theorem test_call :
    after (startAt 0x0200#16 [0xCD#8, 0x00#8, 0x30#8] vectorState)
        (fun t => (t.pc, t.sp, t.memRead 0xCFFF#16, t.memRead 0xCFFE#16)) =
      some (0x3000#16, 0xCFFE#16, 0x02#8, 0x03#8) := by decide

/-- V7-13: `CALL Z,0x3000`, not taken. -/
theorem test_call_z_not_taken :
    after (startAt 0x0200#16 [0xCC#8, 0x00#8, 0x30#8] vectorState)
        (fun t => (t.pc, t.sp, t.memRead 0xCFFF#16)) =
      some (0x0203#16, 0xD000#16, 0x00#8) := by decide

/-- V7-12b: `RET`. -/
theorem test_ret :
    after (startAt 0x3000#16 [0xC9#8] ((({ vectorState with sp := 0xCFFE#16 }).memWrite 0xCFFE#16 0x03#8).memWrite 0xCFFF#16 0x02#8))
        (fun t => (t.pc, t.sp)) =
      some (0x0203#16, 0xD000#16) := by decide

/-- V7-17: `RET C`, not taken. -/
theorem test_ret_c_not_taken :
    after (startAt 0x3005#16 [0xD8#8] ((({ vectorState with sp := 0xCFFE#16 }).memWrite 0xCFFE#16 0x03#8).memWrite 0xCFFF#16 0x02#8))
        (fun t => (t.pc, t.sp)) =
      some (0x3006#16, 0xCFFE#16) := by decide

/-- V7-15: `RST 0x00` at 0xFFFF. -/
theorem test_rst_00 :
    after (startAt 0xFFFF#16 [0xC7#8] { vectorState with sp := 0x0000#16 })
        (fun t => (t.pc, t.sp, t.memRead 0xFFFF#16, t.memRead 0xFFFE#16)) =
      some (0x0000#16, 0xFFFE#16, 0x00#8, 0x00#8) := by decide

/-- V7-18: `JP 0x1234` at 0xFFFE. -/
theorem test_jp_across_the_wrap :
    after (startAt 0xFFFE#16 [0xC3#8, 0x34#8, 0x12#8] vectorState)
        (fun t => (t.pc, t.f)) =
      some (0x1234#16, 0x00#8) := by decide

/-- V7-1: `NOP`. -/
theorem test_nop :
    after (startAt 0x0100#16 [0x00#8] { vectorState with flags := Flags.ofByte 0xF0#8 })
        (fun t => (t.f, t.pc)) =
      some (0xF0#8, 0x0101#16) := by decide

/-- V8-1, V8-2, V8-6, V8-17: the faults, with the opcode byte and its address. -/
theorem test_faults :
    faultOf (startAt 0x0104#16 [0x27#8] vectorState) = some (.unimplementedOpcode 0x27#8 false 0x0104#16) ∧
    faultOf (startAt 0x0104#16 [0x76#8] vectorState) = some (.unimplementedOpcode 0x76#8 false 0x0104#16) ∧
    faultOf (startAt 0x0104#16 [0xD9#8] vectorState) = some (.unimplementedOpcode 0xD9#8 false 0x0104#16) ∧
    faultOf (startAt 0x0104#16 [0xFD#8] vectorState) = some (.unimplementedOpcode 0xFD#8 false 0x0104#16) := by decide

/-- V9-3: the accesses of CALL, in order. -/
theorem test_accesses_call :
    stepAccesses (startAt 0x0200#16 [0xCD#8, 0x00#8, 0x30#8] vectorState) =
      [.fetch 0x0200#16 0xCD#8, .fetch 0x0201#16 0x00#8, .fetch 0x0202#16 0x30#8, .write 0xCFFF#16 0x02#8,
        .write 0xCFFE#16 0x03#8] := by decide

/-- V9-8: the accesses of SET 3,(HL), in order. -/
theorem test_accesses_set :
    stepAccesses (startAt 0x0100#16 [0xCB#8, 0xDE#8] { vectorState with h := 0xC0#8 }) =
      [.fetch 0x0100#16 0xCB#8, .fetch 0x0101#16 0xDE#8, .read 0xC000#16 0x00#8, .write 0xC000#16 0x08#8] := by decide

/-- V2-16, V4-13: SP plus a negative byte under `SPADD_NEG_RULE` = carry. -/
theorem test_spadd_carry_rule :
    (addSpE8 .carry 0x0001#16 0xFF#8).2.toByte = 0x30#8 ∧ (addSpE8 .carry 0x0000#16 0xFF#8).2.toByte = 0x00#8 := by decide

/-- V3-20: AND under `AND_SETS_H` = true. -/
theorem test_and_sets_h : (and8 true 0x5A#8 0x3F#8).1 = 0x1A#8 ∧ (and8 true 0x5A#8 0x3F#8).2.toByte = 0x20#8 := by decide

/-- The memory form: writing what an unlisted address reads as removes the cell; addresses stay in order. -/
theorem test_memory_canonical :
    (((State.reset.memWrite 0x0005#16 0x01#8).memWrite 0x0003#16 0x02#8).memWrite 0x0005#16 0x00#8).mem = [(3, 0x02#8)] ∧
    ((State.reset.memWrite 0x0005#16 0x01#8).memWrite 0x0003#16 0x02#8).mem = [(3, 0x02#8), (5, 0x01#8)] := by decide

/-! ### Witnesses: each obligation's hypotheses are met together -/

/-- A state about to store: LD (HL),0x7F at 0x0100 with HL = 0xC000. -/
def storing : State := startAt 0x0100#16 [0x36#8, 0x7F#8] { vectorState with h := 0xC0#8 }

/-- `storing` after its step. -/
def stored : State := ({ storing with pc := 0x0102#16 } : State).memWrite 0xC000#16 0x7F#8

theorem step_storing : step storing = .next stored := rfl

theorem witness_DecodeAfterEncode : WellFormed (.call_nz_n16 0x3412#16) ∧
    decode (encode (.call_nz_n16 0x3412#16) ++ [0xFF#8]) = .instr (.call_nz_n16 0x3412#16) [0xFF#8] := by decide

theorem witness_EncodeAfterDecode : decode [0xCB#8, 0xC6#8, 0x01#8] = .instr .set_0_mhl [0x01#8] := by decide

theorem witness_LengthFixedByFirstByte_complete : instrLength 0xCB#8 ≤ [0x11#8, 0x22#8].length + 1 := by decide
theorem witness_LengthFixedByFirstByte_exact : instrLength 0x01#8 = [0x11#8, 0x22#8].length + 1 := by decide
theorem witness_LengthFixedByFirstByte_cut : [0x11#8].length + 1 < instrLength 0x01#8 := by decide

theorem witness_StepRunsDecodedInstruction : WellFormed (.ld_mhl_n8 0x7F#8) ∧
    ∀ (k : Nat) (h : k < (encode (.ld_mhl_n8 0x7F#8)).length),
      storing.memRead (storing.pc + BitVec.ofNat 16 k) = (encode (.ld_mhl_n8 0x7F#8))[k] := by
  refine ⟨rfl, fun k h => ?_⟩
  have h2 : k < 2 := h
  interval_cases k <;> rfl

/-- The same across the top of memory: the second byte of the instruction is at 0x0000. -/
theorem witness_StepRunsDecodedInstruction_wrap : WellFormed (.jr_e8 0x02#8) ∧
    ∀ (k : Nat) (h : k < (encode (.jr_e8 0x02#8)).length),
      (startAt 0xFFFF#16 [0x18#8, 0x02#8] vectorState).memRead (0xFFFF#16 + BitVec.ofNat 16 k) = (encode (.jr_e8 0x02#8))[k] := by
  refine ⟨rfl, fun k h => ?_⟩
  have h2 : k < 2 := h
  interval_cases k <;> rfl

theorem witness_StepFaults_faulting : (startAt 0x0104#16 [0xFD#8] vectorState).memRead 0x0104#16 = 0xFD#8 := by decide
theorem witness_StepFaults_other : storing.memRead storing.pc = 0x36#8 := by decide

theorem witness_EveryOtherInstructionCompletes :
    (∀ k : Stop, Instr.escape_cb 0x00#8 ≠ (Form.stops k).instr) ∧ ∀ k : Stop, Instr.nop ≠ (Form.stops k).instr :=
  ⟨fun k => by cases k <;> decide, fun k => by cases k <;> decide⟩

theorem witness_LaunchLeavesHostValues :
    ([0x3E#8, 0x01#8] : List Byte).length ≤ 65536 ∧ (0 : Nat) < ([0x3E#8, 0x01#8] : List Byte).length ∧
      ∀ k : Nat, k < ([0x3E#8, 0x01#8] : List Byte).length → 0x0000#16 ≠ 0x0100#16 + BitVec.ofNat 16 k := by
  refine ⟨by decide, by decide, fun k h => ?_⟩
  have h2 : k < 2 := h
  interval_cases k <;> decide

theorem witness_StepKeepsMemoryCanonical : storing.Canonical ∧ step storing = .next stored := ⟨by decide, rfl⟩

theorem witness_CanonicalMemoryIsExtensional :
    storing.Canonical ∧ { storing with a := 0x01#8 }.Canonical ∧ SameMemory storing { storing with a := 0x01#8 } :=
  ⟨by decide, by decide, fun _ => rfl⟩

theorem witness_UnloadedMemoryRunsNops : vectorState.mem = [] := by decide

/-- The stored byte is the first byte of the next instruction, for LD (HL),A whose HL is PC. -/
theorem witness_StoreIsSeenByTheNextFetch :
    let s : State := { vectorState with a := 0x3E#8, h := 0x01#8, pc := 0x0100#16 }
    let t : State := s.memWrite s.hl s.a
    R8.a ≠ .mhl ∧ exec (Form.ld .mhl .a).instr s = .next t ∧ 0 < t.fetchInstrBytes.1.length ∧
      t.pc + BitVec.ofNat 16 0 = s.hl := ⟨by decide, rfl, by decide, by decide⟩

/-- The two stored bytes are the second and the third of the next instruction, a JP, for LD (n16),SP. -/
theorem witness_StoreIsSeenByTheNextFetch_two :
    let s : State := startAt 0x0100#16 [0xC3#8] vectorState
    let t : State := (s.memWrite 0x0101#16 0x00#8).memWrite 0x0102#16 0xD0#8
    exec (.ld_mn16_sp 0x0101#16) s = .next t ∧ 2 < t.fetchInstrBytes.1.length ∧
      t.pc + BitVec.ofNat 16 1 = 0x0101#16 ∧ t.pc + BitVec.ofNat 16 2 = 0x0101#16 + 1#16 :=
  ⟨rfl, by decide, by decide, by decide⟩

/-- A taken CALL Z to the slot it pushes to: the low byte of the return address is the next opcode. -/
theorem witness_StoreIsSeenByTheNextFetch_call :
    let s : State := { vectorState with pc := 0x0100#16, flags := Flags.ofByte 0x80#8 }
    let t : State := { s.push16 s.pc with pc := 0xCFFE#16 }
    s.flags.holds .z = true ∧ exec (Form.callCond .z 0xCFFE#16).instr s = .next t ∧ 0 < t.fetchInstrBytes.1.length ∧
      t.pc + BitVec.ofNat 16 0 = s.sp - 2#16 := ⟨by decide, rfl, by decide, by decide⟩

theorem witness_PcAdvancesByLength :
    storing.fetchDecode = (.instr (.ld_mhl_n8 0x7F#8) [], { storing with pc := 0x0102#16 }) ∧
      writesPc (Instr.ld_mhl_n8 0x7F#8).form = false ∧ step storing = .next stored := ⟨by decide, by decide, rfl⟩

theorem witness_StepMemoryIsReplayOfAccesses : step storing = .next stored := rfl

theorem witness_AccessesSeeMemoryBeforeTheStep :
    .fetch 0x0101#16 0x7F#8 ∈ stepAccesses storing ∧
      .read 0xC000#16 0x00#8 ∈ stepAccesses (startAt 0x0100#16 [0x34#8] { vectorState with h := 0xC0#8 }) := by decide

/-- A memory that agrees at the bytes a step reads and differs at another one: INC (HL), and a fault at HALT. -/
theorem witness_AccessesSeeMemoryBeforeTheStep_other :
    let s : State := startAt 0x0100#16 [0x34#8] { vectorState with h := 0xC0#8 }
    let m : Memory := Memory.write s.mem 0xD000 0x55#8
    m ≠ s.mem ∧ (∃ t, step s = .next t) ∧
      ∀ (addr : Word) (v : Byte), .fetch addr v ∈ stepAccesses s ∨ .read addr v ∈ stepAccesses s →
        ({ s with mem := m } : State).memRead addr = s.memRead addr := by
  refine ⟨by decide, ⟨_, rfl⟩, fun addr v h => ?_⟩
  have e : stepAccesses (startAt 0x0100#16 [0x34#8] { vectorState with h := 0xC0#8 }) =
    [.fetch 0x0100#16 0x34#8, .read 0xC000#16 0x00#8, .write 0xC000#16 0x01#8] := by decide
  simp only [e, List.mem_cons, Access.fetch.injEq, Access.read.injEq, reduceCtorEq, List.not_mem_nil, or_false, false_or] at h
  rcases h with ⟨rfl, _⟩ | ⟨rfl, _⟩ <;> decide

theorem witness_AccessesSeeMemoryBeforeTheStep_fault :
    let s : State := startAt 0x0100#16 [0x76#8] vectorState
    let m : Memory := Memory.write s.mem 0x0101 0x55#8
    m ≠ s.mem ∧ step s = .fault (.unimplementedOpcode 0x76#8 false 0x0100#16) ∧
      ∀ (addr : Word) (v : Byte), .fetch addr v ∈ stepAccesses s ∨ .read addr v ∈ stepAccesses s →
        ({ s with mem := m } : State).memRead addr = s.memRead addr := by
  refine ⟨by decide, rfl, fun addr v h => ?_⟩
  have e : stepAccesses (startAt 0x0100#16 [0x76#8] vectorState) = [.fetch 0x0100#16 0x76#8] := by decide
  simp only [e, List.mem_cons, Access.fetch.injEq, reduceCtorEq, List.not_mem_nil, or_false] at h
  obtain ⟨rfl, _⟩ := h
  decide

theorem witness_DataAccessesAreTheTable :
    storing.fetchDecode = (.instr (.ld_mhl_n8 0x7F#8) [], { storing with pc := 0x0102#16 }) ∧ R8.b ≠ .mhl ∧ R8.l ≠ .mhl ∧
      (Flags.ofByte 0x10#8).holds .c = true ∧ (Flags.ofByte 0x10#8).holds .nc = false := by decide

theorem witness_UnaffectedFlagsAreKept :
    WellFormed (.inc_a) ∧ exec .inc_a vectorState = .next (incR8 .a vectorState) ∧ (flagsWritten (Instr.inc_a).form).c = false :=
  ⟨rfl, rfl, rfl⟩

theorem witness_UnaffectedFlagsAreKept_all : WellFormed .nop ∧ exec .nop vectorState = .next vectorState ∧
    flagsWritten (Instr.nop).form = { z := false, n := false, h := false, c := false } := ⟨rfl, rfl, rfl⟩

theorem witness_OnlyNamedStateIsWritten :
    WellFormed .ld_b_c ∧ exec .ld_b_c vectorState = .next (copyR8 .b .c vectorState) ∧
      writesRegister .a (Instr.ld_b_c).form = false ∧ writesSp (Instr.ld_b_c).form = false ∧
      writesPc (Instr.ld_b_c).form = false ∧ writesMemory (Instr.ld_b_c).form = false := ⟨rfl, rfl, rfl, rfl, rfl, rfl⟩

theorem witness_RunEndsByHostOrFault :
    runUntil (fun s => s.pc == 0x0102#16) 5 storing = .stoppedByHost stored ∧
      runUntil (fun _ => false) 5 (startAt 0x0104#16 [0x76#8] vectorState) =
        .faulted (.unimplementedOpcode 0x76#8 false 0x0104#16) ∧
      runUntil (fun _ => false) 1 storing = .running stored := by decide

theorem witness_LoadCopiesOperand : ¬(R8.mhl = .mhl ∧ R8.h = .mhl) ∧ ¬(R8.l = .mhl ∧ R8.mhl = .mhl) := by decide

/-- The clauses of `SpPlusSignedByte` meet at 0x7F and 0x80: V4-10 and V4-14. -/
theorem witness_SpPlusSignedByte :
    after (startAt 0x0100#16 [0xE8#8, 0x7F#8] { vectorState with sp := 0x00FF#16 }) (fun t => (t.sp, t.f)) =
        some (0x017E#16, 0x30#8) ∧
      after (startAt 0x0100#16 [0xE8#8, 0x80#8] { vectorState with sp := 0x0080#16 }) (fun t => (t.sp, t.f)) =
        some (0x0000#16, 0x00#8) := by decide

theorem witness_NopChangesOnlyPc : vectorState.memRead vectorState.pc = 0x00#8 := by decide

/-- Each condition holds somewhere: the taken clauses of the calls and the returns. -/
theorem witness_conditions_hold :
    (Flags.ofByte 0x00#8).holds .nz = true ∧ (Flags.ofByte 0x80#8).holds .z = true ∧ (Flags.ofByte 0x00#8).holds .nc = true ∧
      (Flags.ofByte 0x10#8).holds .c = true := by decide

/-- Each condition fails somewhere: the four clauses of `FalseConditionChangesNothing`. -/
theorem witness_FalseConditionChangesNothing :
    (Flags.ofByte 0x80#8).z = true ∧ (Flags.ofByte 0x00#8).z = false ∧ (Flags.ofByte 0x10#8).c = true ∧
      (Flags.ofByte 0x00#8).c = false := by decide

/-- The step clauses of `FalseConditionChangesNothing`: JP NZ, JR C, CALL Z and RET NC whose conditions fail. -/
theorem witness_FalseConditionChangesNothing_step :
    (startAt 0x0200#16 [0xC2#8, 0x34#8, 0x12#8] { vectorState with flags := Flags.ofByte 0x80#8 }).fetchDecode.1 =
        .instr (Form.jpCond .nz 0x1234#16).instr [] ∧
      (startAt 0x0200#16 [0x38#8, 0x10#8] vectorState).fetchDecode.1 = .instr (Form.jrCond .c 0x10#8).instr [] ∧
      (startAt 0x0200#16 [0xCC#8, 0x00#8, 0x30#8] vectorState).fetchDecode.1 = .instr (Form.callCond .z 0x3000#16).instr [] ∧
      (startAt 0x0200#16 [0xD0#8] { vectorState with flags := Flags.ofByte 0x10#8 }).fetchDecode.1 =
        .instr (Form.retCond .nc).instr [] := by decide

end Sys2Proof.Tests
end

/-! PROOFS. Which instructions complete (00_scope.md R9; 60_exceptions.md R260). -/

namespace Sys2Proof.Machine

/-- An instruction completes, or it is the row of a faulting opcode and raises that opcode's fault. -/
theorem exec_cases (i : Instr) (s : State) :
    (∃ t, exec i s = .next t) ∨ ∃ k, i = (Form.stops k).instr ∧ exec i s = stopWith k s := by
  have h := runForm_cases i.form s
  rwa [← exec_eq_runForm, instr_form] at h

/-- Settles O7: of the two outcomes `exec_cases` leaves, the fault belongs to the rows the hypothesis excludes. -/
theorem everyOtherInstructionCompletes : Obligations.EveryOtherInstructionCompletes := by
  intro i s hi
  obtain hnext | ⟨k, hk, -⟩ := exec_cases i s
  · exact hnext
  · exact absurd hk (hi k)

end Sys2Proof.Machine

/-! PROOFS. Register views (10_state.md R12 to R14). -/

namespace Sys2Proof

theorem hiByte_eq_ofNat (v : Word) : hiByte v = BitVec.ofNat 8 (v.toNat / 256) := by
  rw [← hiByte_toNat, BitVec.ofNat_toNat, BitVec.setWidth_eq]

theorem loByte_eq_ofNat (v : Word) : loByte v = BitVec.ofNat 8 v.toNat := by
  apply BitVec.eq_of_toNat_eq
  rw [loByte_toNat, BitVec.toNat_ofNat]

/-- A mask that keeps the high byte is a mask of the low byte. -/
theorem wordOf_and_low (hi lo m : Byte) : wordOf hi (lo &&& m) = wordOf hi lo &&& wordOf 0xFF#8 m := by
  have high : hi = hi &&& 0xFF#8 := (BitVec.and_allOnes (x := hi)).symm
  calc wordOf hi (lo &&& m) = wordOf (hi &&& 0xFF#8) (lo &&& m) := by rw [← high]
    _ = wordOf hi lo &&& wordOf 0xFF#8 m := BitVec.and_append.symm

end Sys2Proof

namespace Sys2Proof.Machine

/-- Settles O24, by the laws of `wordOf`, `hiByte` and `loByte`. -/
theorem pairViewsAreTheirRegisters : Obligations.PairViewsAreTheirRegisters := by
  intro s v
  refine ⟨⟨wordOf_toNat _ _, wordOf_toNat _ _, wordOf_toNat _ _⟩, ?_,
    State.setBc_bc s v, State.setDe_de s v, State.setHl_hl s v⟩
  rw [← hiByte_eq_ofNat, ← loByte_eq_ofNat]
  exact ⟨rfl, rfl, rfl⟩

/-- Z, N, H, C stand at bits 7, 6, 5, 4 of F, with zeros below. -/
theorem Flags.toByte_toNat (f : Flags) :
    f.toByte.toNat = 128 * f.z.toNat + 64 * f.n.toNat + 32 * f.h.toNat + 16 * f.c.toNat := by
  obtain ⟨z, n, h, c⟩ := f
  revert z n h c
  decide

/-- Bits 3..0 of F read zero. -/
theorem Flags.toByte_and_low (f : Flags) : f.toByte &&& 0x0F#8 = 0#8 := by
  obtain ⟨z, n, h, c⟩ := f
  revert z n h c
  decide

/-- A byte written to F keeps its high nibble. -/
theorem Flags.toByte_ofByte (v : Byte) : (Flags.ofByte v).toByte = v &&& 0xF0#8 := by
  revert v
  decide

/-- A word written to AF keeps all but its low nibble. -/
theorem State.setAf_af (s : State) (v : Word) : (s.setAf v).af = v &&& 0xFFF0#16 := by
  calc (s.setAf v).af = wordOf (hiByte v) (loByte v &&& 0xF0#8) := congrArg (wordOf (hiByte v)) (Flags.toByte_ofByte _)
    _ = wordOf (hiByte v) (loByte v) &&& wordOf 0xFF#8 0xF0#8 := wordOf_and_low _ _ _
    _ = v &&& 0xFFF0#16 := by rw [wordOf_hiByte_loByte]; rfl

/-- Settles O25, by the laws of the flag byte and of the AF view. -/
theorem flagByteView : Obligations.FlagByteView :=
  ⟨Flags.toByte_toNat, Flags.toByte_ofByte, fun s v => ⟨wordOf_toNat _ _, State.setAf_af s v, rfl⟩⟩

end Sys2Proof.Machine

/-! PROOFS. The state before the first step (10_state.md R23; 70_reset_and_hazards.md R290). -/

namespace Sys2Proof.Machine

/-- Loading an image writes memory and nothing else. -/
theorem State.hostLoad_eq (s : State) (base : Word) (image : List Byte) :
    s.hostLoad base image = { s with mem := (s.hostLoad base image).mem } := by
  induction image generalizing s base with
  | nil => rfl
  | cons v vs ih => exact ih (s.memWrite base v) (base + 1#16)

/-- The address after `base` has the offsets from `base`, one lower. -/
theorem word_add_one_add_ofNat (base : Word) (k : Nat) :
    base + 1#16 + BitVec.ofNat 16 k = base + BitVec.ofNat 16 (k + 1) := by
  rw [BitVec.ofNat_add, BitVec.add_assoc, BitVec.add_comm 1#16]

/-- Offsets below 65536 give different addresses. -/
theorem word_ne_add_ofNat_succ (base : Word) {k : Nat} (h : k + 1 < 65536) : base ≠ base + BitVec.ofNat 16 (k + 1) := by
  intro e
  have := congrArg BitVec.toNat e
  simp only [BitVec.toNat_add, BitVec.toNat_ofNat] at this
  omega

/-- Loading an image leaves the bytes outside it. -/
theorem State.memRead_hostLoad_other (s : State) {base addr : Word} {image : List Byte}
    (h : ∀ k < image.length, addr ≠ base + BitVec.ofNat 16 k) : (s.hostLoad base image).memRead addr = s.memRead addr := by
  induction image generalizing s base with
  | nil => rfl
  | cons v vs ih =>
    have hbase : addr ≠ base := by simpa using h 0 (Nat.succ_pos _)
    have hrest : ∀ k < vs.length, addr ≠ base + 1#16 + BitVec.ofNat 16 k := fun k hk => by
      rw [word_add_one_add_ofNat]
      exact h (k + 1) (Nat.succ_lt_succ hk)
    exact (ih (s.memWrite base v) hrest).trans (State.memRead_memWrite_other s v hbase)

/-- A loaded image that does not meet itself stands at its addresses. -/
theorem State.memRead_hostLoad_image (s : State) (base : Word) {image : List Byte} (hlen : image.length ≤ 65536)
    {k : Nat} (hk : k < image.length) : (s.hostLoad base image).memRead (base + BitVec.ofNat 16 k) = image[k] := by
  induction image generalizing s base k with
  | nil => exact absurd hk (Nat.not_lt_zero k)
  | cons v vs ih =>
    rw [List.length_cons] at hlen hk
    cases k with
    | zero =>
      have hother : ∀ j < vs.length, base ≠ base + 1#16 + BitVec.ofNat 16 j := fun j hj => by
        rw [word_add_one_add_ofNat]
        exact word_ne_add_ofNat_succ base (by omega)
      rw [BitVec.add_zero]
      exact (State.memRead_hostLoad_other (s.memWrite base v) hother).trans (State.memRead_memWrite_same s base v)
    | succ k =>
      rw [← word_add_one_add_ofNat]
      exact ih (s.memWrite base v) (base + 1#16) (by omega) (by omega)

/-- Settles O9: reset sets the registers, and the load of the image, an induction over its bytes, touches memory alone. -/
theorem launchLeavesHostValues : Obligations.LaunchLeavesHostValues := by
  intro r base image hlen
  refine ⟨?_, fun k hk => State.memRead_hostLoad_image (.resetWith r) base hlen hk,
    fun addr h => State.memRead_hostLoad_other (.resetWith r) h⟩
  rw [State.launch, State.hostLoad_eq]
  exact ⟨rfl, rfl, rfl, rfl, rfl, rfl, rfl, rfl, rfl, rfl, Flags.toByte_and_low r.flags⟩

end Sys2Proof.Machine

/-! PROOFS. What an instruction leaves unchanged (10_state.md R15, R18, R22; 20_memory.md R53). -/

namespace Sys2Proof.Machine

/-! ### Views of a next state -/

/-- A next state that is known is known in every view of it. -/
theorem next_view {α : Type} (view : State → α) {r t : State} {v : α} (h : (Host.Outcome.next r : Result) = .next t)
    (e : view r = v) : view t = v := by
  cases h
  exact e

/-- A conditional transfer keeps every view that the transfer keeps. -/
theorem view_ite {α : Type} (view : State → α) {c : Prop} [Decidable c] {t s : State} (h : view t = view s) :
    view (if c then t else s) = view s := by
  split
  · exact h
  · rfl

/-- LD has a next state outside HALT's slot alone, and there it is the copy. -/
theorem runForm_ld_next {dst src : R8} {s t : State} (h : runForm (.ld dst src) s = .next t) : copyR8 dst src s = t := by
  by_cases hm : dst = .mhl ∧ src = .mhl
  · exact absurd ((if_pos hm).symm.trans h) (stopWith_ne_next .halt s t)
  · exact Host.Outcome.next.inj ((if_neg hm).symm.trans h)

@[simp] theorem State.writeR16Stk_pc (s : State) (p : R16Stk) (v : Word) : (s.writeR16Stk p v).pc = s.pc := by
  cases p <;> rfl
@[simp] theorem State.stepR16Mem_sp (s : State) (m : R16Mem) (addr : Word) : (s.stepR16Mem m addr).sp = s.sp := by
  cases m <;> rfl
@[simp] theorem State.stepR16Mem_pc (s : State) (m : R16Mem) (addr : Word) : (s.stepR16Mem m addr).pc = s.pc := by
  cases m <;> rfl
@[simp] theorem State.stepR16Mem_flags (s : State) (m : R16Mem) (addr : Word) :
    (s.stepR16Mem m addr).flags = s.flags := by
  cases m <;> rfl

@[simp] theorem aluByte_sp (op : AluOp) (b : Byte) (s : State) : (aluByte op b s).sp = s.sp := by cases op <;> rfl
@[simp] theorem aluByte_pc (op : AluOp) (b : Byte) (s : State) : (aluByte op b s).pc = s.pc := by cases op <;> rfl

@[simp] theorem callSub_flags (n : Word) (s : State) : (callSub n s).flags = s.flags := State.push16_flags s s.pc

/-! ### SP and PC -/

/-- Writing a pair other than SP leaves SP. -/
theorem State.writeR16_sp_other (s : State) {p : R16} (v : Word) (h : p ≠ .sp) : (s.writeR16 p v).sp = s.sp :=
  State.readR16_writeR16_other s v (q := .sp) h.symm

/-- Outside the families of 10_state.md R18 SP stays. -/
theorem runForm_keeps_sp {f : Form} {s t : State} (hf : ∀ x, f ≠ .escape x) (hw : writesSp f = false)
    (h : runForm f s = .next t) : t.sp = s.sp := by
  cases f with
  | ld dst src => exact runForm_ld_next h ▸ State.writeR8_sp _ _ _
  | ldImm _ _ | inc _ | dec _ | rot _ _ | res _ _ | set _ _ => exact next_view State.sp h (State.writeR8_sp _ _ _)
  | ldIndA _ | ldAInd _ => exact next_view State.sp h (State.stepR16Mem_sp _ _ _)
  | ldPair _ _ | incPair _ | decPair _ =>
    exact next_view State.sp h (State.writeR16_sp_other _ _ (of_decide_eq_false hw))
  | alu _ _ | aluImm _ _ => exact next_view State.sp h (aluByte_sp _ _ _)
  | jpCond _ _ | jrCond _ _ => exact next_view State.sp h (view_ite State.sp rfl)
  | ldSpHl | addSp _ | push _ | pop _ | call _ | callCond _ _ | rst _ | ret | retCond _ => exact Bool.noConfusion hw
  | stops k => exact absurd h (stopWith_ne_next k s t)
  | escape x => exact absurd rfl (hf x)
  | _ => exact next_view State.sp h rfl

/-- Outside the control transfers PC stays (10_state.md R22). -/
theorem runForm_keeps_pc {f : Form} {s t : State} (hf : ∀ x, f ≠ .escape x) (hw : writesPc f = false)
    (h : runForm f s = .next t) : t.pc = s.pc := by
  cases f with
  | ld dst src => exact runForm_ld_next h ▸ State.writeR8_pc _ _ _
  | ldImm _ _ | inc _ | dec _ | rot _ _ | res _ _ | set _ _ => exact next_view State.pc h (State.writeR8_pc _ _ _)
  | ldIndA _ | ldAInd _ => exact next_view State.pc h (State.stepR16Mem_pc _ _ _)
  | ldPair _ _ | incPair _ | decPair _ => exact next_view State.pc h (State.writeR16_pc _ _ _)
  | push p => exact next_view State.pc h (State.push16_pc _ _)
  | pop p => exact next_view State.pc h (State.writeR16Stk_pc _ _ _)
  | alu _ _ | aluImm _ _ => exact next_view State.pc h (aluByte_pc _ _ _)
  | jp _ | jpCond _ _ | jpHl | jr _ | jrCond _ _ | call _ | callCond _ _ | ret | retCond _ | rst _ =>
    exact Bool.noConfusion hw
  | stops k => exact absurd h (stopWith_ne_next k s t)
  | escape x => exact absurd rfl (hf x)
  | _ => exact next_view State.pc h rfl

/-- Settles O16: the fetch moves PC past the bytes, and a family that is no control transfer leaves it there. -/
theorem pcAdvancesByLength : Obligations.PcAdvancesByLength := by
  intro s t s1 i rest hfetch hw hstep
  obtain ⟨j, hj, -, hj_fetch⟩ := s.fetchDecode_eq
  obtain ⟨hi, hs1⟩ := Prod.mk.inj (hj_fetch.symm.trans hfetch)
  obtain ⟨rfl, -⟩ := Decoded.instr.inj hi
  have hexec : exec j s1 = .next t := by simpa only [step, hfetch] using hstep
  rw [exec_eq_runForm] at hexec
  rw [runForm_keeps_pc (form_ne_escape hj) hw hexec, ← hs1, State.setPc_pc]

/-! ### The general registers -/

section Registers

variable {r : R8} (s : State)

@[simp] theorem State.readR8_setSp (v : Word) : (s.setSp v).readR8 r = s.readR8 r := by cases r <;> rfl
@[simp] theorem State.readR8_setPc (v : Word) : (s.setPc v).readR8 r = s.readR8 r := by cases r <;> rfl

theorem State.readR8_memWrite (addr : Word) (v : Byte) (hr : r ≠ .mhl) : (s.memWrite addr v).readR8 r = s.readR8 r := by
  cases r with
  | mhl => exact absurd rfl hr
  | _ => rfl

theorem State.readR8_setA_other (v : Byte) (hr : r ≠ .mhl) (h : r ≠ .a) : (s.setA v).readR8 r = s.readR8 r :=
  State.readR8_writeR8_other s (x := .a) v hr h

/-- Writing two registers leaves the others. -/
theorem State.readR8_writeR8_writeR8_other {x y : R8} (v w : Byte) (hr : r ≠ .mhl)
    (h : (decide (r = x) || decide (r = y)) = false) : ((s.writeR8 x v).writeR8 y w).readR8 r = s.readR8 r := by
  obtain ⟨hx, hy⟩ := Bool.or_eq_false_iff.mp h
  exact (State.readR8_writeR8_other _ w hr (of_decide_eq_false hy)).trans
    (State.readR8_writeR8_other s v hr (of_decide_eq_false hx))

/-- Writing a pair leaves the registers that are no half of it. -/
theorem State.readR8_writeR16 {p : R16} (v : Word) (hr : r ≠ .mhl) (h : pairHas r p = false) :
    (s.writeR16 p v).readR8 r = s.readR8 r := by
  cases p with
  | bc => exact State.readR8_writeR8_writeR8_other s (x := .b) (y := .c) _ _ hr h
  | de => exact State.readR8_writeR8_writeR8_other s (x := .d) (y := .e) _ _ hr h
  | hl => exact State.readR8_writeR8_writeR8_other s (x := .h) (y := .l) _ _ hr h
  | sp => exact State.readR8_setSp s v

/-- Writing a pair of the stack instructions leaves the registers that are no half of it. -/
theorem State.readR8_writeR16Stk {p : R16Stk} (v : Word) (hr : r ≠ .mhl) (h : stackPairHas r p = false) :
    (s.writeR16Stk p v).readR8 r = s.readR8 r := by
  cases p with
  | bc => exact State.readR8_writeR16 s (p := .bc) v hr h
  | de => exact State.readR8_writeR16 s (p := .de) v hr h
  | hl => exact State.readR8_writeR16 s (p := .hl) v hr h
  | af => exact (State.readR8_setFlags _ _ _).trans (State.readR8_setA_other s _ hr (of_decide_eq_false h))

/-- The step of an address operand leaves the registers it does not move. -/
theorem State.readR8_stepR16Mem {m : R16Mem} (addr : Word) (hr : r ≠ .mhl) (h : addressMoves r m = false) :
    (s.stepR16Mem m addr).readR8 r = s.readR8 r := by
  cases m with
  | bc | de => rfl
  | hlInc | hlDec => exact State.readR8_writeR16 s (p := .hl) _ hr h

/-- An ALU operation leaves every register but A, and CP leaves A too. -/
theorem readR8_aluByte {op : AluOp} (b : Byte) (hr : r ≠ .mhl) (h : (decide (r = .a) && op != .cp) = false) :
    (aluByte op b s).readR8 r = s.readR8 r := by
  cases op with
  | cp => exact State.readR8_setFlags _ _ _
  | _ =>
    have hne : r ≠ .a := by simpa using h
    exact (State.readR8_setFlags _ _ _).trans (State.readR8_setA_other s _ hr hne)

end Registers

/-- A general register that its family does not write stays (10_state.md R22). -/
theorem runForm_keeps_register {f : Form} {s t : State} {r : R8} (hf : ∀ x, f ≠ .escape x) (hr : r ≠ .mhl)
    (hw : writesRegister r f = false) (h : runForm f s = .next t) : t.readR8 r = s.readR8 r := by
  have view {u : State} (hu : (Host.Outcome.next u : Result) = .next t) (e : u.readR8 r = s.readR8 r) :
    t.readR8 r = s.readR8 r := next_view (·.readR8 r) hu e
  cases f with
  | ld dst src => exact runForm_ld_next h ▸ State.readR8_writeR8_other s _ hr (Ne.symm (of_decide_eq_false hw))
  | ldImm dst n => exact view h (State.readR8_writeR8_other s n hr (Ne.symm (of_decide_eq_false hw)))
  | ldIndA m => exact view h ((State.readR8_stepR16Mem _ _ hr hw).trans (State.readR8_memWrite s _ _ hr))
  | ldAInd m =>
    obtain ⟨ha, hm⟩ := Bool.or_eq_false_iff.mp hw
    exact view h ((State.readR8_stepR16Mem _ _ hr hm).trans (State.readR8_setA_other s _ hr (of_decide_eq_false ha)))
  | ldAAbs _ | ldhAC | ldhAImm _ => exact view h (State.readR8_setA_other s _ hr (of_decide_eq_false hw))
  | cpl | accRot _ =>
    exact view h ((State.readR8_setFlags _ _ _).trans (State.readR8_setA_other s _ hr (of_decide_eq_false hw)))
  | ldAbsA _ | ldhCA | ldhImmA _ => exact view h (State.readR8_memWrite s _ _ hr)
  | ldAbsSp n => exact view h ((State.readR8_memWrite _ _ _ hr).trans (State.readR8_memWrite s _ _ hr))
  | ldPair _ _ | incPair _ | decPair _ => exact view h (State.readR8_writeR16 s _ hr hw)
  | ldHlSpE _ | addHl _ =>
    exact view h ((State.readR8_setFlags _ _ _).trans (State.readR8_writeR16 s (p := .hl) _ hr hw))
  | push p => exact view h (State.readR8_push16 s _ hr)
  | pop p => exact view h ((State.readR8_writeR16Stk _ _ hr hw).trans (State.readR8_setSp _ _))
  | alu _ _ | aluImm _ _ => exact view h (readR8_aluByte s _ hr hw)
  | inc _ | dec _ | rot _ _ =>
    exact view h ((State.readR8_setFlags _ _ _).trans
      (State.readR8_writeR8_other s _ hr (Ne.symm (of_decide_eq_false hw))))
  | res _ _ | set _ _ => exact view h (State.readR8_writeR8_other s _ hr (Ne.symm (of_decide_eq_false hw)))
  | scf | ccf | bit _ _ => exact view h (State.readR8_setFlags s r _)
  | addSp e => exact view h ((State.readR8_setFlags _ _ _).trans (State.readR8_setSp s _))
  | nop => exact view h rfl
  | ldSpHl => exact view h (State.readR8_setSp s _)
  | jp _ | jpHl | jr _ => exact view h (State.readR8_setPc s _)
  | jpCond _ _ | jrCond _ _ => exact view h (view_ite (·.readR8 r) (State.readR8_setPc s _))
  | call _ | rst _ => exact view h ((State.readR8_setPc _ _).trans (State.readR8_push16 s _ hr))
  | callCond cc n =>
    exact view h (view_ite (·.readR8 r) ((State.readR8_setPc _ _).trans (State.readR8_push16 s _ hr)))
  | ret => exact view h ((State.readR8_setPc _ _).trans (State.readR8_setSp _ _))
  | retCond cc => exact view h (view_ite (·.readR8 r) ((State.readR8_setPc _ _).trans (State.readR8_setSp _ _)))
  | stops k => exact absurd h (stopWith_ne_next k s t)
  | escape x => exact absurd rfl (hf x)

/-! ### Memory -/

/-- A register operand makes no write access. -/
theorem replayWrites_readR8_writeR8_of_ne {x y : R8} (v : Byte) (s t : State) (h : x ≠ .mhl) :
    replayWrites (readR8Accesses y s ++ writeR8Accesses x v s) t = t := by
  rw [replayWrites_append, replayWrites_readR8Accesses, writeR8Accesses, if_neg h]
  rfl

/-- The accesses of a family that makes no memory write replay to nothing (20_memory.md R53). -/
theorem replayWrites_formAccesses_of_not_writesMemory {f : Form} (hw : writesMemory f = false) (s : State) :
    replayWrites (formAccesses f s) s = s := by
  cases f with
  | ld dst src => exact replayWrites_readR8_writeR8_of_ne _ s s (of_decide_eq_false hw)
  | ldImm dst n => rw [formAccesses, writeR8Accesses, if_neg (of_decide_eq_false hw)]; rfl
  | inc _ | dec _ | rot _ _ | res _ _ | set _ _ =>
    exact replayWrites_readR8_writeR8_of_ne _ s s (of_decide_eq_false hw)
  | alu _ src | bit _ src => exact replayWrites_readR8Accesses src s s
  | retCond cc => rw [formAccesses]; split <;> rfl
  | ldIndA _ | ldAbsA _ | ldhCA | ldhImmA _ | ldAbsSp _ | push _ | call _ | callCond _ _ | rst _ =>
    exact Bool.noConfusion hw
  | _ => rfl

/-- Outside the storing families every byte of memory stays. -/
theorem runForm_keeps_memory {f : Form} {s t : State} (hf : ∀ x, f ≠ .escape x) (hw : writesMemory f = false)
    (h : runForm f s = .next t) : SameMemory s t := by
  have hmem : t.mem = s.mem := by rw [runForm_mem hf h, replayWrites_formAccesses_of_not_writesMemory hw]
  exact State.memRead_congr hmem

/-- Settles O22: the four frames, each a case split on the family. -/
theorem onlyNamedStateIsWritten : Obligations.OnlyNamedStateIsWritten := by
  intro i s t hi h
  rw [exec_eq_runForm] at h
  have hf := form_ne_escape hi
  exact ⟨fun _ hr hw => runForm_keeps_register hf hr hw h, fun hw => runForm_keeps_sp hf hw h,
    fun hw => runForm_keeps_pc hf hw h, fun hw => runForm_keeps_memory hf hw h⟩

/-! ### Flags -/

/-- Each flag outside `written` is the same in `g` as in `f`. -/
def KeepsFlagsBut (written f g : Flags) : Prop :=
  (written.z = false → g.z = f.z) ∧ (written.n = false → g.n = f.n) ∧
    (written.h = false → g.h = f.h) ∧ (written.c = false → g.c = f.c)

theorem keepsFlagsBut_of_eq {written f g : Flags} (h : g = f) : KeepsFlagsBut written f g := by
  subst h
  exact ⟨fun _ => rfl, fun _ => rfl, fun _ => rfl, fun _ => rfl⟩

/-- A family that writes all four flags has none to keep. -/
theorem keepsFlagsBut_all (f g : Flags) : KeepsFlagsBut { z := true, n := true, h := true, c := true } f g :=
  ⟨nofun, nofun, nofun, nofun⟩

/-- A flag that its family does not write stays (10_state.md R15). -/
theorem runForm_keeps_flags {f : Form} {s t : State} (hf : ∀ x, f ≠ .escape x) (h : runForm f s = .next t) :
    KeepsFlagsBut (flagsWritten f) s.flags t.flags := by
  have keep {u : State} (hu : (Host.Outcome.next u : Result) = .next t) (e : u.flags = s.flags) :
    KeepsFlagsBut (flagsWritten f) s.flags t.flags := keepsFlagsBut_of_eq (next_view State.flags hu e)
  cases f with
  | alu _ _ | aluImm _ _ | addSp _ | ldHlSpE _ | accRot _ | rot _ _ => exact keepsFlagsBut_all _ _
  | inc _ | dec _ | bit _ _ => cases Host.Outcome.next.inj h; exact ⟨nofun, nofun, nofun, fun _ => rfl⟩
  | cpl => cases Host.Outcome.next.inj h; exact ⟨fun _ => rfl, nofun, nofun, fun _ => rfl⟩
  | scf | ccf | addHl _ => cases Host.Outcome.next.inj h; exact ⟨fun _ => rfl, nofun, nofun, nofun⟩
  | pop p =>
    cases p with
    | af => exact keepsFlagsBut_all _ _
    | bc | de | hl => exact keep h rfl
  | ld dst src => exact keepsFlagsBut_of_eq (runForm_ld_next h ▸ State.writeR8_flags _ _ _)
  | ldImm _ _ | res _ _ | set _ _ => exact keep h (State.writeR8_flags _ _ _)
  | ldIndA _ | ldAInd _ => exact keep h (State.stepR16Mem_flags _ _ _)
  | ldPair _ _ | incPair _ | decPair _ => exact keep h (State.writeR16_flags _ _ _)
  | push p => exact keep h (State.push16_flags _ _)
  | call n => exact keep h (callSub_flags n s)
  | rst v => exact keep h (callSub_flags (restartVector v) s)
  | callCond _ n => exact keep h (view_ite State.flags (callSub_flags n s))
  | jpCond _ _ | jrCond _ _ | retCond _ => exact keep h (view_ite State.flags rfl)
  | stops k => exact absurd h (stopWith_ne_next k s t)
  | escape x => exact absurd rfl (hf x)
  | _ => exact keep h rfl

/-- Settles O21: the table of R15, a case split on the family. -/
theorem unaffectedFlagsAreKept : Obligations.UnaffectedFlagsAreKept := by
  intro i s t hi h
  rw [exec_eq_runForm] at h
  exact runForm_keeps_flags (form_ne_escape hi) h

end Sys2Proof.Machine

/-! PROOFS. The accesses of a step and the memory it leaves (20_memory.md R43, R50 to R57). -/

namespace Sys2Proof.Machine

/-! ### A read after a write -/

/-- Settles O13, by the law of `memRead` after `memWrite`. -/
theorem readReturnsLatestWrite : Obligations.ReadReturnsLatestWrite :=
  fun s addr other v => ⟨State.memRead_memWrite s addr other v, rfl⟩

/-! ### A step with its accesses -/

/-- The bytes at PC decide what the decoder answers. -/
theorem State.fetchDecode_eq_decode (s : State) :
    s.fetchDecode =
      (decode s.instrBytes, s.setPc (s.pc + BitVec.ofNat 16 (instrLength (s.memRead s.pc)))) := by
  rw [State.fetchDecode, State.fetchInstrBytes_eq]

/-- The accesses of a step that fetched an instruction are the fetches and the instruction's data accesses. -/
theorem stepAccesses_of_fetchDecode {s s1 : State} {i : Instr} {rest : List Byte}
    (h : s.fetchDecode = (.instr i rest, s1)) :
    stepAccesses s = fetchAccesses (instrLength (s.memRead s.pc)) s ++ dataAccesses i s1 := by
  simp only [stepAccesses, h]

/-- A step that fetched an instruction executes it. -/
theorem step_of_fetchDecode {s s1 : State} {i : Instr} {rest : List Byte} (h : s.fetchDecode = (.instr i rest, s1)) :
    step s = exec i s1 := by
  simp only [step, h]

/-- Settles O17: fetches write nothing, and `exec_mem` says that an instruction's memory is the replay of its data
accesses. -/
theorem stepMemoryIsReplayOfAccesses : Obligations.StepMemoryIsReplayOfAccesses := by
  intro s t hstep
  obtain ⟨i, -, -, hfetch⟩ := s.fetchDecode_eq
  rw [step_of_fetchDecode hfetch] at hstep
  rw [exec_mem hstep, stepAccesses_of_fetchDecode hfetch, replayWrites_append, replayWrites_fetchAccesses]
  exact replayWrites_mem_congr (State.setPc_mem _ _) _

/-! ### Unloaded memory -/

/-- With nothing in memory a step is NOP's: the byte at PC reads 0x00 (20_memory.md R55). -/
theorem step_of_mem_nil {s : State} (h : s.mem = []) : step s = .next { s with pc := s.pc + 1#16 } := by
  have hread (addr : Word) : s.memRead addr = 0x00#8 := by rw [State.memRead, h]; rfl
  have hbytes : s.instrBytes = [0x00#8] := by simp only [State.instrBytes, hread]; rfl
  have hfetch : s.fetchDecode = (.instr .nop [], s.setPc (s.pc + 1#16)) := by
    rw [State.fetchDecode_eq_decode, hbytes, hread]; rfl
  exact step_of_fetchDecode hfetch

/-- A run goes on from where its first step leads. -/
theorem core_run_succ_of_step {n : Nat} {s t : core.State} (h : core.step s = .next t) :
    core.run (n + 1) s = core.run n t := by
  rw [Host.Core.run, h]

/-- Settles O14, by induction on the number of steps: each leaves memory empty and PC one further. -/
theorem unloadedMemoryRunsNops : Obligations.UnloadedMemoryRunsNops := by
  intro n
  induction n with
  | zero => intro s _; simp [Host.Core.run]
  | succ n ih =>
    intro s h
    calc core.run (n + 1) s = core.run n (s.setPc (s.pc + 1#16)) := core_run_succ_of_step (step_of_mem_nil h)
      _ = .next (s.setPc (s.pc + 1#16 + BitVec.ofNat 16 n)) := ih _ h
      _ = .next (s.setPc (s.pc + BitVec.ofNat 16 (n + 1))) := by rw [word_add_one_add_ofNat]

end Sys2Proof.Machine

/-! PROOFS. The table of accesses (20_memory.md R53), and a store seen by the next fetch (R52). -/

namespace Sys2Proof.Machine

/-! ### The accesses of each row -/

theorem ioPage_eq_ofNat (offset : Byte) : ioPage offset = BitVec.ofNat 16 (0xFF00 + offset.toNat) := by
  apply BitVec.eq_of_toNat_eq
  rw [ioPage, wordOf_toNat, BitVec.toNat_ofNat]
  exact (Nat.mod_eq_of_lt (by omega)).symm

theorem byte_add_one_eq_ofNat (v : Byte) : v + 1#8 = BitVec.ofNat 8 (v.toNat + 1) := by bv_omega

theorem byte_sub_one_eq_ofNat (v : Byte) : v - 1#8 = BitVec.ofNat 8 (v.toNat + 255) := by bv_omega

theorem readR8Accesses_register {r : R8} (h : r ≠ .mhl) (s : State) : readR8Accesses r s = [] := if_neg h

theorem writeR8Accesses_register {r : R8} (h : r ≠ .mhl) (v : Byte) (s : State) : writeR8Accesses r v s = [] := if_neg h

/-- Settles O19: each row of R53 is a row of `formAccesses`, once the statement's numbers are read as bytes and
addresses. -/
theorem dataAccessesAreTheTable : Obligations.DataAccessesAreTheTable := by
  intro s x y op k q b v p rr cc st n n16
  simp only [← loByte_eq_ofNat, ← hiByte_eq_ofNat, ← ioPage_eq_ofNat, ← byte_add_one_eq_ofNat,
    ← byte_sub_one_eq_ofNat, ← fetchAccesses_eq, List.forall_mem_cons, List.not_mem_nil, false_imp_iff, implies_true,
    and_true]
  have row {f : Form} {xs : List Access} (h : f ≠ .ld .mhl .mhl) (h' : ∀ x, f ≠ .escape x)
      (e : formAccesses f s = xs) : dataAccesses f.instr s = xs := (dataAccesses_instr h h' s).trans e
  refine ⟨fun i rest s1 hfetch => stepAccesses_of_fetchDecode hfetch,
    fun hx => row (fun e => hx (Form.ld.inj e).1) nofun ?oneReadLd,
    ⟨rfl, rfl, rfl, rfl, rfl, rfl, rfl, row nofun nofun rfl, row nofun nofun rfl⟩,
    fun hx => row (fun e => hx (Form.ld.inj e).2) nofun ?oneWriteLd,
    ⟨rfl, rfl, rfl, rfl, rfl, rfl, rfl, rfl⟩,
    ⟨rfl, rfl, row nofun nofun rfl, row nofun nofun rfl, row nofun nofun rfl⟩,
    rfl, row nofun nofun rfl, rfl, fun hcc => row nofun nofun (if_pos hcc), row nofun nofun rfl,
    row nofun nofun rfl, rfl, fun hcc => row nofun nofun (if_pos hcc),
    fun hcc => ⟨row nofun nofun (if_neg (Bool.eq_false_iff.mp hcc)),
      row nofun nofun (if_neg (Bool.eq_false_iff.mp hcc))⟩,
    fun hx hy => ?registers, ?none⟩
  case oneReadLd =>
    rw [formAccesses, writeR8Accesses_register hx]
    rfl
  case oneWriteLd =>
    rw [formAccesses, readR8Accesses_register hx]
    rfl
  case registers =>
    have hread := readR8Accesses_register hx s
    have hwrite (v : Byte) := writeR8Accesses_register hx v s
    refine ⟨row (fun e => hx (Form.ld.inj e).1) nofun ?_, row nofun nofun (hwrite n), row nofun nofun hread,
      row nofun nofun ?_, row nofun nofun ?_, row nofun nofun ?_, row nofun nofun hread,
      row nofun nofun ?_, row nofun nofun ?_⟩
    · rw [formAccesses, readR8Accesses_register hy, hwrite, List.append_nil]
    all_goals rw [formAccesses, hread, hwrite, List.append_nil]
  case none => and_intros <;> exact row nofun nofun rfl

/-! ### A store and the next fetch (R52) -/

/-- The `k`-th byte of a fetch is the byte of memory `k` after PC. -/
theorem State.fetchInstrBytes_getElem? (s : State) {k : Nat} (h : k < s.fetchInstrBytes.1.length) :
    s.fetchInstrBytes.1[k]? = some (s.memRead (s.pc + BitVec.ofNat 16 k)) := by
  rw [State.fetchInstrBytes_eq] at h ⊢
  simp only [State.instrBytes, List.length_map, List.length_range] at h
  simp [State.instrBytes, h]

/-- An instruction that makes a data access completes: the faulting opcodes make none. -/
theorem exec_completes_of_dataAccesses {i : Instr} {s : State} (h : dataAccesses i s ≠ []) :
    ∃ t, exec i s = .next t := by
  obtain hnext | ⟨k, rfl, -⟩ := exec_cases i s
  · exact hnext
  · exact absurd (dataAccesses_instr (f := .stops k) nofun nofun s) h

/-- Bytes that stand in memory after the replay of an instruction's accesses are seen by the next fetch. -/
theorem storeSeenByNextFetch_of_replay {i : Instr} {s : State} {stored : List (Word × Byte)} {accesses : List Access}
    (h : dataAccesses i s = accesses) (hne : accesses ≠ [])
    (hstored : ∀ x ∈ stored, (replayWrites accesses s).memRead x.1 = x.2) : StoreSeenByNextFetch i s stored := by
  subst h
  obtain ⟨t, ht⟩ := exec_completes_of_dataAccesses hne
  refine ⟨t, ht, fun x hx k hk haddr => ?_⟩
  rw [State.fetchInstrBytes_getElem? t hk, haddr, State.memRead_congr (exec_mem ht), hstored x hx]

/-- One write, as the last access. -/
theorem storeSeenByNextFetch_of_write {i : Instr} {s : State} {addr : Word} {v : Byte} {before : List Access}
    (h : dataAccesses i s = before ++ [.write addr v]) : StoreSeenByNextFetch i s [(addr, v)] := by
  refine storeSeenByNextFetch_of_replay h (by simp) ?_
  rw [replayWrites_append]
  simp [replayWrites]

/-- Two writes, at different addresses. -/
theorem storeSeenByNextFetch_of_two_writes {i : Instr} {s : State} {addr addr' : Word} {v v' : Byte}
    (hne : addr ≠ addr') (h : dataAccesses i s = [.write addr v, .write addr' v']) :
    StoreSeenByNextFetch i s [(addr, v), (addr', v')] := by
  refine storeSeenByNextFetch_of_replay h (by simp) ?_
  simp [replayWrites, State.memRead_memWrite_other _ _ hne]

/-- Settles O15: the writes are the rows of `dataAccessesAreTheTable`, and a fetch reads memory as the last instruction
left it. -/
theorem storeIsSeenByTheNextFetch : Obligations.StoreIsSeenByTheNextFetch := by
  intro s x k b v p cc n n16 m io lo hi pushed
  have pushedSeen {i : Instr} {w : Word}
      (h : dataAccesses i s = [.write (s.sp - 1#16) (hi w), .write (s.sp - 2#16) (lo w)]) :
      StoreSeenByNextFetch i s (pushed w) := storeSeenByNextFetch_of_two_writes (by bv_omega) h
  obtain ⟨-, -, -, hld, hwrite, hreadWrite, hsp, hpush, hcall, hcallCond, hrst, -⟩ :=
    dataAccessesAreTheTable s x .b .add k .rlca b v p .bc cc .daa n n16
  simp only [List.forall_mem_cons, List.not_mem_nil, false_imp_iff, implies_true, and_true] at hwrite hreadWrite ⊢
  obtain ⟨hldImm, hbc, hde, habs, hio, hioC, hinc, hdec⟩ := hwrite
  obtain ⟨hincHl, hdecHl, hrot, hres, hset⟩ := hreadWrite
  have written {i : Instr} {addr : Word} {w : Byte} (h : dataAccesses i s = [.write addr w]) :
      StoreSeenByNextFetch i s [(addr, w)] := storeSeenByNextFetch_of_write (before := []) h
  have rewritten {i : Instr} {w : Byte} (h : dataAccesses i s = [readAt s s.hl, .write s.hl w]) :
      StoreSeenByNextFetch i s [(s.hl, w)] := storeSeenByNextFetch_of_write (before := [readAt s s.hl]) h
  exact ⟨⟨written hldImm, written hbc, written hde, written hinc, written hdec, written habs, written hio,
      written hioC, rewritten hincHl, rewritten hdecHl, rewritten hrot, rewritten hres, rewritten hset⟩,
    fun hx => written (hld hx), storeSeenByNextFetch_of_two_writes (word_ne_add_one n16).symm hsp, pushedSeen hpush,
    pushedSeen hcall, fun hcc => pushedSeen (hcallCond hcc), pushedSeen hrst⟩

end Sys2Proof.Machine

/-! PROOFS. A step's accesses in order, and what a step depends on (20_memory.md R52, R53, R57). -/

namespace Sys2Proof.Machine

/-! ### Reads, then writes -/

/-- At most two data reads of the bytes now in memory, then at most two writes. -/
def ReadsThenWrites (s : State) (xs : List Access) : Prop :=
  ∃ (addrs : List Word) (writes : List (Word × Byte)),
    xs = addrs.map (readAt s) ++ writes.map (fun x => .write x.1 x.2) ∧ addrs.length ≤ 2 ∧ writes.length ≤ 2

theorem readsThenWrites_nil (s : State) : ReadsThenWrites s [] := ⟨[], [], rfl, by simp, by simp⟩

theorem readsThenWrites_read (s : State) (addr : Word) : ReadsThenWrites s [readAt s addr] :=
  ⟨[addr], [], rfl, by simp, by simp⟩

theorem readsThenWrites_write (s : State) (addr : Word) (v : Byte) : ReadsThenWrites s [.write addr v] :=
  ⟨[], [(addr, v)], rfl, by simp, by simp⟩

theorem readsThenWrites_pop (s : State) : ReadsThenWrites s (popAccesses s) :=
  ⟨[s.sp, s.sp + 1#16], [], rfl, by simp, by simp⟩

theorem readsThenWrites_two_writes (s : State) (x y : Word × Byte) :
    ReadsThenWrites s [.write x.1 x.2, .write y.1 y.2] := ⟨[], [x, y], rfl, by simp, by simp⟩

theorem readsThenWrites_readR8 (s : State) (r : R8) : ReadsThenWrites s (readR8Accesses r s) := by
  unfold readR8Accesses
  split
  · exact readsThenWrites_read s s.hl
  · exact readsThenWrites_nil s

theorem readsThenWrites_writeR8 (s : State) (r : R8) (v : Byte) : ReadsThenWrites s (writeR8Accesses r v s) := by
  unfold writeR8Accesses
  split
  · exact readsThenWrites_write s s.hl v
  · exact readsThenWrites_nil s

/-- An operand is read before one is written. -/
theorem readsThenWrites_operands (s : State) (src dst : R8) (v : Byte) :
    ReadsThenWrites s (readR8Accesses src s ++ writeR8Accesses dst v s) := by
  by_cases hsrc : src = .mhl
  · by_cases hdst : dst = .mhl
    · subst hsrc hdst
      exact ⟨[s.hl], [(s.hl, v)], rfl, by simp, by simp⟩
    · rw [writeR8Accesses_register hdst, List.append_nil]
      exact readsThenWrites_readR8 s src
  · rw [readR8Accesses_register hsrc, List.nil_append]
    exact readsThenWrites_writeR8 s dst v

/-- The data accesses of every form are reads, then writes. -/
theorem formAccesses_readsThenWrites (f : Form) (s : State) : ReadsThenWrites s (formAccesses f s) := by
  cases f with
  | ld dst src => exact readsThenWrites_operands s src dst _
  | inc r | dec r | rot _ r | res _ r | set _ r => exact readsThenWrites_operands s r r _
  | ldImm dst n => exact readsThenWrites_writeR8 s dst n
  | alu _ src | bit _ src => exact readsThenWrites_readR8 s src
  | ldIndA _ | ldAbsA _ | ldhCA | ldhImmA _ => exact readsThenWrites_write s _ _
  | ldAInd _ | ldAAbs _ | ldhAC | ldhAImm _ => exact readsThenWrites_read s _
  | ldAbsSp _ | push _ | call _ | rst _ => exact readsThenWrites_two_writes s (_, _) (_, _)
  | pop _ | ret => exact readsThenWrites_pop s
  | callCond cc _ =>
    rw [formAccesses]
    split
    · exact readsThenWrites_two_writes s (_, _) (_, _)
    · exact readsThenWrites_nil s
  | retCond cc =>
    rw [formAccesses]
    split
    · exact readsThenWrites_pop s
    · exact readsThenWrites_nil s
  | _ => exact readsThenWrites_nil s

/-- The accesses of a step: the fetches from PC on, then reads of the memory before the step, then writes. -/
theorem stepAccesses_eq_fetches_append (s : State) :
    ∃ xs, stepAccesses s = fetchAccesses (instrLength (s.memRead s.pc)) s ++ xs ∧ ReadsThenWrites s xs := by
  obtain ⟨i, hi, -, hfetch⟩ := s.fetchDecode_eq
  refine ⟨_, stepAccesses_of_fetchDecode hfetch, ?_⟩
  rw [dataAccesses_eq hi]
  exact formAccesses_readsThenWrites i.form _

/-- Settles O20: the order of fetches is `fetchAccesses_eq`, that of the data accesses a case split on the form. -/
theorem fetchesThenReadsThenWrites : Obligations.FetchesThenReadsThenWrites := by
  intro s
  obtain ⟨xs, hstep, addrs, writes, rfl, hreads, hwrites⟩ := stepAccesses_eq_fetches_append s
  refine ⟨addrs.map fun addr => (addr, s.memRead addr), writes, ?_, by rwa [List.length_map], hwrites⟩
  rw [hstep, fetchAccesses_eq, List.append_assoc, List.map_map]
  rfl

/-! ### What a step reads -/

/-- `P` holds of the address of every fetch and data read of a list, with the byte it carries. -/
def EveryRead (P : Word → Byte → Prop) (xs : List Access) : Prop :=
  ∀ (addr : Word) (v : Byte), .fetch addr v ∈ xs ∨ .read addr v ∈ xs → P addr v

theorem EveryRead.mono {P : Word → Byte → Prop} {xs ys : List Access} (h : EveryRead P xs) (hsub : ys ⊆ xs) :
    EveryRead P ys := fun addr v hmem => h addr v (hmem.imp (hsub ·) (hsub ·))

/-- The fetches and reads of a step carry the bytes memory held before it (R52). -/
theorem stepAccesses_everyRead (s : State) : EveryRead (fun addr v => v = s.memRead addr) (stepAccesses s) := by
  obtain ⟨xs, hstep, addrs, writes, rfl, -, -⟩ := stepAccesses_eq_fetches_append s
  rw [hstep, fetchAccesses_eq]
  rintro addr v (hmem | hmem)
  · obtain ⟨k, -, rfl, rfl⟩ : ∃ k < instrLength (s.memRead s.pc),
        s.pc + BitVec.ofNat 16 k = addr ∧ s.memRead (s.pc + BitVec.ofNat 16 k) = v := by simpa [readAt] using hmem
    rfl
  · obtain ⟨-, rfl⟩ : addr ∈ addrs ∧ s.memRead addr = v := by simpa [readAt] using hmem
    rfl

/-! ### The same registers on another memory -/

/-- A state with the same registers on another memory. -/
def State.withMem (s : State) (m : Memory) : State := { s with mem := m }

@[simp] theorem State.withMem_flags (s : State) (m : Memory) : (s.withMem m).flags = s.flags := rfl

@[simp] theorem State.addrR16Mem_withMem (s : State) (m : Memory) (p : R16Mem) :
    (s.withMem m).addrR16Mem p = s.addrR16Mem p := by cases p <;> rfl

/-- An outcome with its next state, if it has one, on another memory. -/
def Result.withMem : Result → Memory → Result
  | .next t, m => .next (t.withMem m)
  | .fault r, _ => .fault r
  | .refused r, _ => .refused r

/-- An outcome that is a next state up to memory is that state on some memory. -/
theorem Result.eq_next_of_withMem {r : Result} {t : State} (h : ∀ m, Result.withMem r m = .next (t.withMem m)) :
    ∃ t', r = .next t' ∧ t' = t.withMem t'.mem := by
  cases r with
  | next t' => exact ⟨t', rfl, Host.Outcome.next.inj (h t'.mem)⟩
  | fault r => exact nomatch h []
  | refused r => exact nomatch h []

/-- A fault is a fault whatever the memory. -/
theorem Result.eq_fault_of_withMem {r : Result} {f : Fault} {m : Memory} (h : Result.withMem r m = .fault f) :
    r = .fault f := by
  cases r with
  | fault r => exact h
  | next t => exact nomatch h
  | refused r => exact nomatch h

/-- The memory `m` holds what `s` holds wherever a list of accesses fetches or reads. -/
def AgreesOnReads (s : State) (m : Memory) (xs : List Access) : Prop :=
  EveryRead (fun addr _ => (s.withMem m).memRead addr = s.memRead addr) xs

section WithMem

variable {s : State} {m : Memory}

theorem AgreesOnReads.append {xs ys : List Access} (h : AgreesOnReads s m (xs ++ ys)) :
    AgreesOnReads s m xs ∧ AgreesOnReads s m ys :=
  ⟨EveryRead.mono h (List.subset_append_left _ _), EveryRead.mono h (List.subset_append_right _ _)⟩

theorem AgreesOnReads.memRead {xs : List Access} {addr : Word} (h : AgreesOnReads s m (readAt s addr :: xs)) :
    (s.withMem m).memRead addr = s.memRead addr := h addr _ (.inr List.mem_cons_self)

/-! ### One instruction on a memory that agrees where it reads -/

theorem State.readR8_withMem {r : R8} (h : AgreesOnReads s m (readR8Accesses r s)) :
    (s.withMem m).readR8 r = s.readR8 r := by
  cases r with
  | mhl => exact h.memRead
  | _ => rfl

theorem readR8Accesses_withMem {r : R8} (h : AgreesOnReads s m (readR8Accesses r s)) :
    readR8Accesses r (s.withMem m) = readR8Accesses r s := by
  cases r with
  | mhl => exact congrArg (fun v => [Access.read s.hl v]) h.memRead
  | _ => rfl

theorem State.pop16_withMem (h : AgreesOnReads s m (popAccesses s)) :
    (s.withMem m).pop16 = (s.pop16.1, s.pop16.2.withMem m) := by
  obtain ⟨hlow, hhigh⟩ := AgreesOnReads.append (xs := [_]) h
  rw [State.pop16_eq, State.pop16_eq, ← hlow.memRead, ← hhigh.memRead]
  rfl

theorem popAccesses_withMem (h : AgreesOnReads s m (popAccesses s)) : popAccesses (s.withMem m) = popAccesses s := by
  obtain ⟨hlow, hhigh⟩ := AgreesOnReads.append (xs := [_]) h
  rw [popAccesses, popAccesses, readAt, readAt, readAt, readAt, ← hlow.memRead, ← hhigh.memRead]
  rfl

theorem returnSub_withMem (h : AgreesOnReads s m (popAccesses s)) (m' : Memory) :
    (returnSub (s.withMem m)).withMem m' = (returnSub s).withMem m' := by
  rw [returnSub, State.pop16_withMem h]
  rfl

/-- A conditional transfer ends alike when the transfer does. -/
theorem transferIf_withMem (taken : Bool) {t t' : State} (m' : Memory)
    (h : taken = true → t'.withMem m' = t.withMem m') :
    Result.withMem (.next (if taken then t' else s.withMem m)) m' =
      Result.withMem (.next (if taken then t else s)) m' := by
  cases taken with
  | true => exact congrArg _ (h rfl)
  | false => rfl

/-- The form makes the same accesses. -/
theorem formAccesses_withMem {f : Form} (h : AgreesOnReads s m (formAccesses f s)) :
    formAccesses f (s.withMem m) = formAccesses f s := by
  cases f with
  | ld dst src | inc r | dec r | rot _ r | res _ r | set _ r =>
    obtain ⟨hr, -⟩ := AgreesOnReads.append h
    rw [formAccesses, readR8Accesses_withMem hr, State.readR8_withMem hr]
    rfl
  | alu _ src | bit _ src => exact readR8Accesses_withMem h
  | ldAInd p =>
    rw [formAccesses, State.addrR16Mem_withMem]
    exact congrArg (fun v => [Access.read _ v]) h.memRead
  | ldAAbs _ | ldhAC | ldhAImm _ => exact congrArg (fun v => [Access.read _ v]) h.memRead
  | pop _ | ret => exact popAccesses_withMem h
  | retCond cc =>
    by_cases hcc : s.flags.holds cc = true
    · rw [formAccesses, if_pos hcc] at h
      rw [formAccesses, formAccesses, State.withMem_flags, popAccesses_withMem h]
    · rw [formAccesses, formAccesses, State.withMem_flags, if_neg hcc, if_neg hcc]
  | push p | ldIndA p => cases p <;> rfl
  | _ => rfl

/-- The form ends alike: only the memory left differs. -/
theorem runForm_withMem {f : Form} (hf : ∀ x, f ≠ .escape x) (h : AgreesOnReads s m (formAccesses f s)) (m' : Memory) :
    Result.withMem (runForm f (s.withMem m)) m' = Result.withMem (runForm f s) m' := by
  cases f with
  | ld dst src =>
    simp only [runForm, copyR8, State.readR8_withMem h.append.1]
    split
    · rfl
    · cases dst <;> rfl
  | inc r | dec r | rot _ r | res _ r | set _ r =>
    simp only [runForm, incR8, decR8, rotateR8, resetBit, setBit, State.readR8_withMem h.append.1]
    cases r <;> rfl
  | alu op src =>
    simp only [runForm, aluR8, State.readR8_withMem h]
    cases op <;> rfl
  | bit b src =>
    simp only [runForm, testBit, State.readR8_withMem h]
    rfl
  | ldAInd p =>
    simp only [runForm, loadAInd, loadA, State.addrR16Mem_withMem, h.memRead]
    cases p <;> rfl
  | ldAAbs _ | ldhAC | ldhAImm _ => exact congrArg (fun v => (Host.Outcome.next ((s.setA v).withMem m') : Result)) h.memRead
  | pop p =>
    simp only [runForm, popPair, State.pop16_withMem h]
    cases p <;> rfl
  | ret => exact congrArg _ (returnSub_withMem h m')
  | retCond cc =>
    refine transferIf_withMem (s.flags.holds cc) m' fun hcc => ?_
    rw [formAccesses, if_pos hcc] at h
    exact returnSub_withMem h m'
  | jpCond cc _ | jrCond cc _ | callCond cc _ => exact transferIf_withMem (s.flags.holds cc) m' fun _ => rfl
  | ldImm r _ => cases r <;> rfl
  | aluImm op _ => cases op <;> rfl
  | ldIndA p | ldPair p _ | push p | addHl p | incPair p | decPair p => cases p <;> rfl
  | escape x => exact absurd rfl (hf x)
  | _ => rfl

/-! ### One step on a memory that agrees where it reads -/

/-- The bytes of the instruction are the same, its first byte among them. -/
theorem memRead_withMem_of_fetchAccesses (h : AgreesOnReads s m (fetchAccesses (instrLength (s.memRead s.pc)) s)) :
    ∀ k < instrLength (s.memRead s.pc),
      (s.withMem m).memRead (s.pc + BitVec.ofNat 16 k) = s.memRead (s.pc + BitVec.ofNat 16 k) := by
  intro k hk
  rw [fetchAccesses_eq] at h
  exact h _ _ (.inl (List.mem_map_of_mem (List.mem_range.mpr hk)))

theorem memRead_pc_withMem (h : AgreesOnReads s m (fetchAccesses (instrLength (s.memRead s.pc)) s)) :
    (s.withMem m).memRead s.pc = s.memRead s.pc := by
  simpa using memRead_withMem_of_fetchAccesses h 0 (instrLength_pos _)

theorem fetchAccesses_withMem (h : AgreesOnReads s m (fetchAccesses (instrLength (s.memRead s.pc)) s)) :
    fetchAccesses (instrLength (s.memRead s.pc)) (s.withMem m) = fetchAccesses (instrLength (s.memRead s.pc)) s := by
  rw [fetchAccesses_eq, fetchAccesses_eq]
  exact List.map_congr_left fun k hk =>
    congrArg (Access.fetch _) (memRead_withMem_of_fetchAccesses h k (List.mem_range.mp hk))

theorem State.fetchDecode_withMem (h : AgreesOnReads s m (fetchAccesses (instrLength (s.memRead s.pc)) s)) :
    (s.withMem m).fetchDecode = (s.fetchDecode.1, s.fetchDecode.2.withMem m) := by
  have hpc : (s.withMem m).memRead (s.withMem m).pc = s.memRead s.pc := memRead_pc_withMem h
  have hbytes : (s.withMem m).instrBytes = s.instrBytes := by
    rw [State.instrBytes, State.instrBytes, hpc]
    exact List.map_congr_left fun k hk => memRead_withMem_of_fetchAccesses h k (List.mem_range.mp hk)
  rw [State.fetchDecode_eq_decode, State.fetchDecode_eq_decode, hbytes, hpc]
  rfl

/-- The step makes the same accesses and ends alike: only the memory left differs. -/
theorem step_withMem (h : AgreesOnReads s m (stepAccesses s)) :
    stepAccesses (s.withMem m) = stepAccesses s ∧
      ∀ m', Result.withMem (step (s.withMem m)) m' = Result.withMem (step s) m' := by
  obtain ⟨i, hi, -, hfetch⟩ := s.fetchDecode_eq
  rw [stepAccesses_of_fetchDecode hfetch, dataAccesses_eq hi] at h ⊢
  obtain ⟨hfetches, hdata⟩ := h.append
  have hfetch' := State.fetchDecode_withMem hfetches
  have hpc : (s.withMem m).memRead (s.withMem m).pc = s.memRead s.pc := memRead_pc_withMem hfetches
  rw [hfetch] at hfetch'
  rw [stepAccesses_of_fetchDecode hfetch', dataAccesses_eq hi, hpc, fetchAccesses_withMem hfetches,
    formAccesses_withMem hdata, step_of_fetchDecode hfetch, step_of_fetchDecode hfetch', exec_eq_runForm, exec_eq_runForm]
  exact ⟨rfl, runForm_withMem (form_ne_escape hi) hdata⟩

end WithMem

/-- Settles O18: the bytes read are `stepAccesses_everyRead`; the step on the other memory is `step_withMem`, and the
memory it leaves is the replay of its writes. -/
theorem accessesSeeMemoryBeforeTheStep : Obligations.AccessesSeeMemoryBeforeTheStep := by
  refine ⟨stepAccesses_everyRead, ?_⟩
  intro s m s' h
  obtain ⟨haccesses, hstep⟩ := step_withMem (s := s) (m := m) h
  refine ⟨haccesses, fun t ht => ?_, fun r hr => ?_⟩
  · rw [ht] at hstep
    obtain ⟨t', ht', hmem⟩ := Result.eq_next_of_withMem hstep
    rw [stepMemoryIsReplayOfAccesses _ _ ht', haccesses] at hmem
    exact ht'.trans (congrArg _ hmem)
  · rw [hr] at hstep
    exact Result.eq_fault_of_withMem (hstep [])

end Sys2Proof.Machine

/-! PROOFS. The decoder and the encoder (30_encoding.md R60 to R69, R72). -/

namespace Sys2Proof

/-! ### Decoding what was encoded -/

/-- Where the decoder reads a 16-bit immediate, the bytes of a word, low byte first, give that word (R66). -/
theorem decode_word {op : Byte} {f : Word → Form} (dec : ∀ rest, decode (op :: rest) = withWord op f rest) (n : Word)
    (rest : List Byte) : decode (op :: loByte n :: hiByte n :: rest) = .instr (f n).instr rest := by
  rw [dec, withWord, wordOf_hiByte_loByte]

/-- The row of every family with its operands is read back from its bytes. The rows with a 16-bit immediate need
`decode_word`; for the others the decoder's fields of the row's bytes evaluate to the row. -/
theorem decode_encode_instr {f : Form} (hf : ∀ x, f ≠ .escape x) (rest : List Byte) :
    decode (encode f.instr ++ rest) = .instr f.instr rest := by
  cases f with
  | escape x => exact absurd rfl (hf x)
  | ldAAbs n | ldAbsA n | ldAbsSp n | jp n | call n => exact decode_word (fun _ => rfl) n rest
  | ldPair x n | jpCond x n | callCond x n => cases x <;> exact decode_word (fun _ => rfl) n rest
  | ld x y | alu x y | rot x y | bit x y | res x y | set x y => cases x <;> cases y <;> rfl
  | ldImm x _ | aluImm x _ | jrCond x _ => cases x <;> rfl
  | ldIndA x | ldAInd x | push x | pop x | inc x | dec x | addHl x | incPair x | decPair x | accRot x | retCond x
  | rst x | stops x => cases x <;> rfl
  | _ => rfl

/-- Settles O1: every row is the row of its family and operands, and a well-formed one is not the escape byte's. -/
theorem decodeAfterEncode : Obligations.DecodeAfterEncode := by
  intro i rest hi
  have h := decode_encode_instr (Machine.form_ne_escape hi) rest
  rwa [Machine.instr_form] at h

/-! ### Encoding what was decoded -/

/-- With the bytes its first byte announces, a byte string begins with the encoding of the instruction read from it, and
the decoder leaves the bytes after that encoding. -/
theorem decode_of_length_le {op : Byte} {rest : List Byte} (h : instrLength op ≤ rest.length + 1) :
    ∃ i, WellFormed i ∧ op :: rest = encode i ++ rest.drop (instrLength op - 1) ∧
      decode (op :: rest) = .instr i (rest.drop (instrLength op - 1)) := by
  have hpos := instrLength_pos op
  obtain ⟨i, -, henc, hi⟩ := decode_complete (op := op) (rest := rest.take (instrLength op - 1))
    (by rw [List.length_take]; omega)
  have hbytes : op :: rest = encode i ++ rest.drop (instrLength op - 1) := by
    rw [henc, List.cons_append, List.take_append_drop]
  refine ⟨i, hi, hbytes, ?_⟩
  rw [hbytes]
  exact decodeAfterEncode i _ hi

/-- With fewer bytes the decoder says that the instruction is cut short (log entry 13). -/
theorem decode_of_lt_length {op : Byte} {rest : List Byte} (h : rest.length + 1 < instrLength op) :
    decode (op :: rest) = .reject (.truncated op) := by
  rcases decodeShape op with ⟨f, len, dec, -, -⟩ | ⟨f, len, dec, -, -⟩ | ⟨f, len, dec, -, -⟩ | ⟨len, -, dec⟩ <;>
    rw [len] at h
  case one => omega
  case two | escape =>
    obtain rfl : rest = [] := List.length_eq_zero_iff.mp (by omega)
    exact dec []
  case three =>
    match rest, h with
    | [], _ => exact dec []
    | [lo], _ => exact dec [lo]

/-- Settles O2: the decoder answers an instruction only where the bytes its first byte announces are there, and then
`decode_of_length_le` says that it read their encoding. -/
theorem encodeAfterDecode : Obligations.EncodeAfterDecode := by
  intro bytes rest i h
  cases bytes with
  | nil => exact nomatch h
  | cons op bs =>
    rcases Nat.lt_or_ge (bs.length + 1) (instrLength op) with hcut | hlen
    · rw [decode_of_lt_length hcut] at h
      exact nomatch h
    · obtain ⟨j, hj, hbytes, hdec⟩ := decode_of_length_le hlen
      obtain ⟨rfl, rfl⟩ := Decoded.instr.inj (hdec.symm.trans h)
      exact ⟨hj, hbytes⟩

/-! ### The length of an instruction (R60) -/

theorem instrLength_le_three (op : Byte) : instrLength op ≤ 3 := by
  rcases decodeShape op with ⟨_, h, _⟩ | ⟨_, h, _⟩ | ⟨_, h, _⟩ | ⟨h, _, _⟩ <;> omega

/-- Settles O3: the decoder's two cases are `decode_of_length_le` and `decode_of_lt_length`, and a fetch moves PC alone. -/
theorem lengthFixedByFirstByte : Obligations.LengthFixedByFirstByte := by
  refine ⟨fun op rest => ⟨⟨instrLength_pos op, instrLength_le_three op, ?escape⟩, fun hlen => ?_, decode_of_lt_length⟩,
    fun s => ?fetch⟩
  case escape =>
    rintro rfl
    rfl
  case fetch =>
    rw [Machine.State.fetchDecode_eq_decode]
    rfl
  · obtain ⟨i, -, -, hdec⟩ := decode_of_length_le hlen
    exact ⟨i, hdec⟩

/-! ### The encodings as the spec writes them -/

/-- Settles O4, by evaluating the decoder on each word. -/
theorem decodesSpecWords : Obligations.DecodesSpecWords := by
  and_intros <;> rfl

end Sys2Proof

/-! PROOFS. The instruction a step runs, and the escape byte (30_encoding.md R67, R69; 10_state.md R16, R17). -/

namespace Sys2Proof.Machine

/-- Where the bytes of an instruction stand at PC, they are the bytes a step fetches, and as many. -/
theorem State.instrBytes_of_memRead {s : State} {i : Instr}
    (h : ∀ (k : Nat) (hk : k < (encode i).length), s.memRead (s.pc + BitVec.ofNat 16 k) = (encode i)[k]) :
    instrLength (s.memRead s.pc) = (encode i).length ∧ s.instrBytes = encode i := by
  have hlen : instrLength (s.memRead s.pc) = (encode i).length := by
    obtain ⟨op, rest, henc, hop⟩ := encode_head i
    have hpc : s.memRead s.pc = op := by simpa [henc] using h 0 (by simp [henc])
    rw [hpc, hop, henc, List.length_cons]
  refine ⟨hlen, List.ext_getElem (by simp [State.instrBytes, hlen]) fun k _ hk => ?_⟩
  simpa [State.instrBytes] using h k hk

/-- Settles O5: the bytes fetched are the encoding, which the decoder reads back by `decodeAfterEncode`. -/
theorem stepRunsDecodedInstruction : Obligations.StepRunsDecodedInstruction := by
  intro s i hi h
  obtain ⟨hlen, hbytes⟩ := State.instrBytes_of_memRead h
  have hdec : decode (encode i) = .instr i [] := by simpa using decodeAfterEncode i [] hi
  have hfetch : s.fetchDecode = (.instr i [], s.setPc (s.pc + BitVec.ofNat 16 (encode i).length)) := by
    rw [State.fetchDecode_eq_decode, hbytes, hlen, hdec]
  exact step_of_fetchDecode hfetch

/-- Settles O53: the decoder reads the row of `prefixedForm op2`, whose family runs `runPrefixed op2`. -/
theorem escapeRunsPrefixedInstruction : Obligations.EscapeRunsPrefixedInstruction := by
  intro op2 s
  have hexec : exec (prefixedForm op2).instr s = .next (runPrefixed op2 s) := by
    rw [exec_instr, runForm_prefixedForm]
  exact ⟨rfl, (prefixedForm op2).instr, runPrefixed op2 s, rfl, rfl, hexec⟩

end Sys2Proof.Machine

/-! PROOFS. The 8-bit loads (40_loads8.md R100 to R119). -/

namespace Sys2Proof.Machine

/-! ### What a write of one byte or one operand does -/

/-- `MemWrite` stores its byte at its address alone (20_memory.md R50). -/
theorem storesByte_memWrite (s : State) (addr : Word) (v : Byte) : StoresByte s (s.memWrite addr v) addr v :=
  ⟨State.memRead_memWrite_same s addr v, fun _ h => State.memRead_memWrite_other s v h⟩

/-- Writing a register operand leaves memory. -/
theorem sameMemory_writeR8 (s : State) {x : R8} (v : Byte) (h : x ≠ .mhl) : SameMemory s (s.writeR8 x v) :=
  State.memRead_congr (by rw [State.writeR8_mem, if_neg h])

/-- Writing `R8[i]` gives the operand its byte and changes nothing else. -/
theorem writesOperand_writeR8 (s : State) (x : R8) (v : Byte) : WritesOperand s (s.writeR8 x v) x v := by
  have hkeeps : KeepsRegistersBut s (s.writeR8 x v) [x] := fun r hr hx =>
    State.readR8_writeR8_other s v hr (List.ne_of_not_mem_cons hx)
  refine ⟨State.writeR8_sp s x v, State.writeR8_pc s x v, hkeeps, ?_⟩
  split
  case isTrue h =>
    subst h
    exact storesByte_memWrite s s.hl v
  case isFalse h => exact ⟨State.readR8_writeR8_same s v h, sameMemory_writeR8 s v h⟩

/-! ### Register, (HL) and immediate (R100 to R104) -/

/-- LD outside HALT's slot is the copy of the source operand. -/
theorem exec_ld {dst src : R8} (h : ¬(dst = .mhl ∧ src = .mhl)) (s : State) :
    exec (Form.ld dst src).instr s = .next (copyR8 dst src s) := by
  rw [exec_instr, runForm, if_neg h]

/-- `01 yyy zzz`; HALT's slot has the opcode of its place too. -/
theorem encode_ld (dst src : R8) :
    encode (Form.ld dst src).instr = [BitVec.ofNat 8 (0x40 + 8 * dst.field + src.field)] := by
  cases dst <;> cases src <;> rfl

/-- `00 yyy 110`, then the byte. -/
theorem encode_ldImm (dst : R8) (n : Byte) :
    encode (Form.ldImm dst n).instr = [BitVec.ofNat 8 (0x06 + 8 * dst.field), n] := by
  cases dst <;> rfl

/-- Settles O26: outside HALT's slot LD writes the destination operand with what the source held. -/
theorem loadCopiesOperand : Obligations.LoadCopiesOperand := fun dst src s h =>
  ⟨encode_ld dst src, copyR8 dst src s, exec_ld h s, writesOperand_writeR8 s dst (s.readR8 src),
    State.writeR8_flags s dst (s.readR8 src)⟩

/-- Settles O27: the instruction writes the destination operand with its immediate. -/
theorem loadImmediateByte : Obligations.LoadImmediateByte := fun dst n s =>
  ⟨encode_ldImm dst n, loadImm8 dst n s, exec_instr (.ldImm dst n) s, writesOperand_writeR8 s dst n,
    State.writeR8_flags s dst n⟩

/-! ### A and memory (R105 to R118) -/

section AccumulatorLoads

variable {i : Instr} {s : State} {addr newHl : Word}

/-- A load of A that then moves HL writes A and HL alone. -/
theorem loadsA_and_movesHl (h : exec i s = .next ((loadA addr s).setHl newHl)) :
    ∃ t, exec i s = .next t ∧ t.a = s.memRead addr ∧ t.hl = newHl ∧ t = { s with a := t.a, h := t.h, l := t.l } :=
  ⟨_, h, rfl, State.setHl_hl _ newHl, rfl⟩

/-- A store of A writes the byte at its address alone. -/
theorem storesA (h : exec i s = .next (storeA addr s)) :
    ∃ t, exec i s = .next t ∧ StoresByte s t addr s.a ∧ t = { s with mem := t.mem } :=
  ⟨_, h, storesByte_memWrite s addr s.a, rfl⟩

/-- A store of A that then moves HL writes the byte at its address and HL alone. -/
theorem storesA_and_movesHl (h : exec i s = .next ((storeA addr s).setHl newHl)) :
    ∃ t, exec i s = .next t ∧ StoresByte s t addr s.a ∧ t.hl = newHl ∧ t = { s with h := t.h, l := t.l, mem := t.mem } :=
  ⟨_, h, storesByte_memWrite s addr s.a, State.setHl_hl _ newHl, rfl⟩

end AccumulatorLoads

/-- Settles O28: A receives the byte at the address, and `loadsA_and_movesHl` says what (HL+) and (HL-) leave in HL. -/
theorem loadAFromPairAddress : Obligations.LoadAFromPairAddress := fun _ =>
  ⟨rfl, rfl, rfl, rfl, rfl, rfl, loadsA_and_movesHl rfl, loadsA_and_movesHl rfl⟩

/-- Settles O29: `storesA` at BC and DE, `storesA_and_movesHl` for (HL+) and (HL-). -/
theorem storeAAtPairAddress : Obligations.StoreAAtPairAddress := fun _ =>
  ⟨rfl, rfl, rfl, rfl, storesA rfl, storesA rfl, storesA_and_movesHl rfl, storesA_and_movesHl rfl⟩

/-- Settles O30: each is a load of A, once the statement's numbers are read as bytes and addresses. -/
theorem loadAFromAbsoluteOrIoPage : Obligations.LoadAFromAbsoluteOrIoPage := by
  intro s n8 n16
  rw [← loByte_eq_ofNat, ← hiByte_eq_ofNat, ← ioPage_eq_ofNat, ← ioPage_eq_ofNat]
  exact ⟨rfl, rfl, rfl, rfl, rfl, rfl⟩

/-- Settles O31: each is a store of A (`storesA`), once the statement's numbers are read as bytes and addresses. -/
theorem storeAAtAbsoluteOrIoPage : Obligations.StoreAAtAbsoluteOrIoPage := by
  intro s n8 n16
  rw [← loByte_eq_ofNat, ← hiByte_eq_ofNat, ← ioPage_eq_ofNat, ← ioPage_eq_ofNat]
  exact ⟨rfl, rfl, rfl, storesA rfl, storesA rfl, storesA rfl⟩

end Sys2Proof.Machine

/-! PROOFS. The 16-bit loads and the stack (41_loads16_stack.md R130 to R139). -/

namespace Sys2Proof

/-- A word put together from two bytes, as the spec writes it: `hi*256 + lo` (00_scope.md R5). -/
theorem wordOf_eq_ofNat (hi lo : Byte) : wordOf hi lo = BitVec.ofNat 16 (hi.toNat * 256 + lo.toNat) := by
  rw [← wordOf_toNat, BitVec.ofNat_toNat, BitVec.setWidth_eq]

end Sys2Proof

namespace Sys2Proof.Machine

/-! ### What a write of one pair or one word does -/

/-- Writing `R16[p]` gives the pair its word and changes nothing else. -/
theorem writesPair_writeR16 (s : State) (p : R16) (v : Word) : WritesPair s (s.writeR16 p v) p v :=
  ⟨State.readR16_writeR16_same s p v, fun _ h => State.readR16_writeR16_other s v h, State.writeR16_a s p v,
    State.writeR16_pc s p v, State.memRead_congr (State.writeR16_mem s p v)⟩

/-- Two stores, the low byte first, store a word (20_memory.md R46). -/
theorem storesWord_memWrite_memWrite (s : State) (addr v : Word) :
    StoresWord s ((s.memWrite addr (loByte v)).memWrite (addr + 1#16) (hiByte v)) addr v := by
  refine ⟨?low, State.memRead_memWrite_same _ _ _, fun other hlow hhigh => ?_⟩
  case low => rw [State.memRead_memWrite_other _ _ (word_ne_add_one addr).symm, State.memRead_memWrite_same]
  · rw [State.memRead_memWrite_other _ _ hhigh, State.memRead_memWrite_other _ _ hlow]

/-- `Push16` stores its word at SP-2 and SP-1 (R138). -/
theorem storesWord_push16 (s : State) (v : Word) : StoresWord s (s.push16 v) (s.sp - 2#16) v := by
  rw [StoresWord, word_add_one_sub_two]
  exact ⟨State.memRead_push16_low s v, State.memRead_push16_high s v,
    fun _ hlow hhigh => State.memRead_push16_other s v hhigh hlow⟩

/-- `Push16` changes SP and memory alone. -/
theorem State.push16_frame (s : State) (v : Word) :
    s.push16 v = { s with sp := (s.push16 v).sp, mem := (s.push16 v).mem } := by
  simp only [State.push16_eq, State.memWrite, State.setSp]

/-- With SP put back, a push has changed memory alone. -/
theorem State.push16_setSp (s : State) (v : Word) : (s.push16 v).setSp s.sp = s.withMem (s.push16 v).mem := by
  rw [State.push16_frame, State.setSp, State.withMem]

/-! ### SP plus a signed byte (R139) -/

/-- A byte is negative when its top bit is set. -/
theorem getLsbD_seven_eq_decide (e : Byte) : e.getLsbD 7 = decide (128 ≤ e.toNat) :=
  (BitVec.msb_eq_getLsbD_last e).symm.trans (BitVec.msb_eq_decide e)

/-- The sign extension of a byte adds 0xFF00 to a negative one. -/
theorem signExtend_byte_toNat (e : Byte) : (e.signExtend 16).toNat = e.toNat + if 128 ≤ e.toNat then 0xFF00 else 0 := by
  have hmsb : e.msb = decide (128 ≤ e.toNat) := BitVec.msb_eq_decide e
  have hmod : e.toNat % 65536 = e.toNat := Nat.mod_eq_of_lt (by omega)
  simp [BitVec.toNat_signExtend, hmsb, hmod]

/-- The sum the spec writes for a non-negative byte. -/
theorem ofNat_sp_add_byte (sp : Word) {e : Byte} (he : e.toNat < 128) :
    BitVec.ofNat 16 (sp.toNat + e.toNat) = sp + e.signExtend 16 := by
  apply BitVec.eq_of_toNat_eq
  rw [BitVec.toNat_ofNat, BitVec.toNat_add, signExtend_byte_toNat, if_neg (by omega), Nat.add_zero]

/-- The difference the spec writes for a negative byte. -/
theorem ofInt_sp_sub_magnitude (sp : Word) {e : Byte} (he : 128 ≤ e.toNat) :
    BitVec.ofInt 16 ((sp.toNat : Int) - (256 - e.toNat : Nat)) = sp + e.signExtend 16 := by
  apply BitVec.eq_of_toNat_eq
  rw [BitVec.toNat_ofInt, BitVec.toNat_add, signExtend_byte_toNat, if_pos he]
  omega

/-- H and C as the carries of the unsigned byte out of the low nibble and the low byte. -/
def spCarryFlags (sp : Word) (e : Byte) : Flags :=
  { z := false, n := false, h := decide (sp.toNat % 16 + e.toNat % 16 > 15), c := decide (sp.toNat % 256 + e.toNat > 255) }

/-- H and C for a negative byte: the borrows of its magnitude, or under the carry rule what they are for any byte. -/
def spNegativeFlags (sp : Word) (e : Byte) : SpAddNegRule → Flags
  | .borrow =>
    { z := false, n := false, h := decide ((256 - e.toNat) % 16 > sp.toNat % 16),
      c := decide (256 - e.toNat > sp.toNat % 256) }
  | .carry => spCarryFlags sp e

/-- A non-negative byte: the carries, under either rule. -/
theorem addSpE8_of_nonneg (rule : SpAddNegRule) (sp : Word) {e : Byte} (he : e.toNat < 128) :
    addSpE8 rule sp e = (sp + e.signExtend 16, spCarryFlags sp e) := by
  have hbit : e.getLsbD 7 = false := by rw [getLsbD_seven_eq_decide, decide_eq_false (by omega)]
  rw [addSpE8, if_pos hbit, ofNat_sp_add_byte sp he, spCarryFlags]

/-- A negative byte: the same sum, with the flags of the rule. The magnitude is at most 128, so its borrow out of the low
byte needs no `mod 256`. -/
theorem addSpE8_of_neg (rule : SpAddNegRule) (sp : Word) {e : Byte} (he : 128 ≤ e.toNat) :
    addSpE8 rule sp e = (sp + e.signExtend 16, spNegativeFlags sp e rule) := by
  have hbit : e.getLsbD 7 = true := by rw [getLsbD_seven_eq_decide, decide_eq_true he]
  have hmag : (256 - e.toNat) % 256 = 256 - e.toNat := Nat.mod_eq_of_lt (by omega)
  cases rule <;> simp [addSpE8, hbit, hmag, ofInt_sp_sub_magnitude sp he, spNegativeFlags, spCarryFlags]

/-- The document's rule (R139). -/
theorem addSpE8_borrow (sp : Word) (e : Byte) :
    addSpE8 .borrow sp e =
      (sp + e.signExtend 16, if e.toNat < 128 then spCarryFlags sp e else spNegativeFlags sp e .borrow) := by
  split
  case isTrue he => exact addSpE8_of_nonneg .borrow sp he
  case isFalse he => exact addSpE8_of_neg .borrow sp (Nat.le_of_not_lt he)

/-- The silicon's rule (R139). -/
theorem addSpE8_carry (sp : Word) (e : Byte) : addSpE8 .carry sp e = (sp + e.signExtend 16, spCarryFlags sp e) := by
  rcases Nat.lt_or_ge e.toNat 128 with he | he
  · exact addSpE8_of_nonneg .carry sp he
  · exact addSpE8_of_neg .carry sp he

/-! ### The pairs a push reads and a pop writes (R134 to R137) -/

/-- AF as a number: A times 256, plus the flags at their bits. -/
theorem State.af_eq_ofNat (s : State) :
    s.af = BitVec.ofNat 16 (s.a.toNat * 256 +
      (128 * s.flags.z.toNat + 64 * s.flags.n.toNat + 32 * s.flags.h.toNat + 16 * s.flags.c.toNat)) := by
  rw [← Flags.toByte_toNat]
  exact wordOf_eq_ofNat s.a s.f

/-- A pair written with two bytes receives them in its two registers (10_state.md R12). -/
theorem State.setBc_wordOf (s : State) (hi lo : Byte) : s.setBc (wordOf hi lo) = { s with b := hi, c := lo } := by
  rw [State.setBc, hiByte_wordOf, loByte_wordOf, State.setB, State.setC]

theorem State.setDe_wordOf (s : State) (hi lo : Byte) : s.setDe (wordOf hi lo) = { s with d := hi, e := lo } := by
  rw [State.setDe, hiByte_wordOf, loByte_wordOf, State.setD, State.setE]

theorem State.setHl_wordOf (s : State) (hi lo : Byte) : s.setHl (wordOf hi lo) = { s with h := hi, l := lo } := by
  rw [State.setHl, hiByte_wordOf, loByte_wordOf, State.setH, State.setL]

/-- AF keeps the four flag bits of its low byte (10_state.md R14). -/
theorem State.setAf_wordOf (s : State) (hi lo : Byte) :
    s.setAf (wordOf hi lo) = { s with a := hi, flags := Flags.ofByte lo } := by
  rw [State.setAf, hiByte_wordOf, loByte_wordOf, State.setA, State.setFlags]

/-- The flags read from a byte are its bits 7, 6, 5, 4, as numbers. -/
theorem Flags.ofByte_eq_decide (v : Byte) :
    Flags.ofByte v =
      { z := decide (v.toNat / 128 % 2 = 1), n := decide (v.toNat / 64 % 2 = 1),
        h := decide (v.toNat / 32 % 2 = 1), c := decide (v.toNat / 16 % 2 = 1) } := by
  simp only [Flags.ofByte, BitVec.getLsbD, Nat.testBit_eq_decide_div_mod_eq, Nat.reducePow]

/-- No flag is lost in the flag byte (10_state.md R13). -/
theorem Flags.ofByte_toByte (f : Flags) : Flags.ofByte f.toByte = f := by
  obtain ⟨z, n, h, c⟩ := f
  revert z n h c
  decide

/-- The pairs do not depend on memory. -/
theorem State.readR16Stk_withMem (s : State) (m : Memory) (p : R16Stk) :
    (s.withMem m).readR16Stk p = s.readR16Stk p := by
  cases p <;> rfl

/-- Writing a stack pair with what it holds changes nothing. -/
theorem State.writeR16Stk_readR16Stk (s : State) (p : R16Stk) : s.writeR16Stk p (s.readR16Stk p) = s := by
  cases p with
  | bc => exact State.setBc_wordOf s s.b s.c
  | de => exact State.setDe_wordOf s s.d s.e
  | hl => exact State.setHl_wordOf s s.h s.l
  | af =>
    have hset := State.setAf_wordOf s s.a s.f
    rwa [State.f, Flags.ofByte_toByte] at hset

/-- POP as one update: SP two higher, and the pair receives the word at SP. -/
theorem popPair_eq (p : R16Stk) (s : State) :
    popPair p s = (s.setSp (s.sp + 2#16)).writeR16Stk p (wordOf (s.memRead (s.sp + 1#16)) (s.memRead s.sp)) := by
  rw [popPair, State.pop16_eq]

/-- PUSH then POP of one pair leaves only the two bytes in memory. -/
theorem popPair_pushPair (p : R16Stk) (s : State) : popPair p (pushPair p s) = s.withMem (pushPair p s).mem := by
  calc popPair p (pushPair p s) = (s.withMem (pushPair p s).mem).writeR16Stk p (s.readR16Stk p) := by
        rw [popPair, pushPair, State.pop16_push16, State.push16_setSp]
    _ = s.withMem (pushPair p s).mem := by
        rw [← State.readR16Stk_withMem s (pushPair p s).mem, State.writeR16Stk_readR16Stk]

/-! ### LD rr,n16, LD (n16),SP and LD SP,HL (R130 to R132) -/

/-- `00 pp0 001`, then the word, low byte first. -/
theorem encode_ldPair (p : R16) (n : Word) :
    encode (Form.ldPair p n).instr = [BitVec.ofNat 8 (0x01 + 16 * p.field), loByte n, hiByte n] := by
  cases p <;> rfl

/-- Settles O32: the instruction writes the pair with its immediate. -/
theorem loadPairImmediate : Obligations.LoadPairImmediate := by
  intro p n s
  rw [← loByte_eq_ofNat, ← hiByte_eq_ofNat]
  exact ⟨encode_ldPair p n, loadPair p n s, exec_instr (.ldPair p n) s, writesPair_writeR16 s p n,
    State.writeR16_flags s p n⟩

/-- Settles O33: LD (n16),SP is the two stores of `storesWord_memWrite_memWrite`. -/
theorem storeSpAndLoadSpFromHl : Obligations.StoreSpAndLoadSpFromHl := by
  intro s n
  rw [← loByte_eq_ofNat, ← hiByte_eq_ofNat]
  exact ⟨rfl, rfl, ⟨storeSp n s, rfl, storesWord_memWrite_memWrite s n s.sp, rfl⟩, rfl⟩

/-! ### LD HL,SP+e8 and ADD SP,e8 (R133, R139; 43_alu16.md R183) -/

/-- Settles O34: both instructions store what `addSpE8` answers under the document's rule. -/
theorem spPlusSignedByte : Obligations.SpPlusSignedByte := by
  intro s e sp m flags
  have hsum : addSpE8 Config.spAddNegRule s.sp e = (s.sp + e.signExtend 16, flags) := addSpE8_borrow s.sp e
  have hload : loadHlSpE e s = (s.setHl (s.sp + e.signExtend 16)).setFlags flags := by rw [loadHlSpE, hsum]
  have hadd : addToSp e s = (s.setSp (s.sp + e.signExtend 16)).setFlags flags := by rw [addToSp, hsum]
  exact ⟨rfl, rfl, rfl, ⟨_, congrArg Host.Outcome.next hload, State.setHl_hl s _, rfl, rfl⟩,
    congrArg Host.Outcome.next hadd⟩

/-- Settles O35: the sum is `SP + e8` under both rules; at SP = 1 and 0xFF only the carry rule sets H and C. -/
theorem spOffsetCarryRule : Obligations.SpOffsetCarryRule := by
  refine ⟨fun sp e => ⟨addSpE8_carry sp e, ?_⟩, by decide⟩
  rw [addSpE8_borrow, addSpE8_carry]

/-! ### PUSH and POP (R134 to R138) -/

/-- Settles O36: PUSH is `Push16` of the pair. -/
theorem pushStoresPair : Obligations.PushStoresPair := by
  intro p s pair
  have hencode : encode (Form.push p).instr = [BitVec.ofNat 8 (0xC5 + 16 * p.field)] := by cases p <;> rfl
  have hpair : BitVec.ofNat 16 pair = s.readR16Stk p := by
    cases p with
    | bc | de | hl => exact (wordOf_eq_ofNat _ _).symm
    | af => exact (State.af_eq_ofNat s).symm
  rw [hpair]
  exact ⟨hencode, pushPair p s, exec_instr (.push p) s, State.push16_sp s _, storesWord_push16 s _, State.push16_frame s _⟩

/-- Settles O37: by `popPair_eq` the pair is written with the two bytes at SP. -/
theorem popLoadsPair : Obligations.PopLoadsPair := fun s =>
  ⟨rfl, rfl, rfl,
    congrArg Host.Outcome.next ((popPair_eq .bc s).trans (State.setBc_wordOf _ _ _)),
    congrArg Host.Outcome.next ((popPair_eq .de s).trans (State.setDe_wordOf _ _ _)),
    congrArg Host.Outcome.next ((popPair_eq .hl s).trans (State.setHl_wordOf _ _ _))⟩

/-- Settles O38: AF keeps the flag bits of the byte at SP, which `Flags.ofByte_eq_decide` reads as the statement does. -/
theorem popAfLoadsFlags : Obligations.PopAfLoadsFlags := by
  intro s lo
  rw [← Flags.ofByte_eq_decide]
  exact ⟨rfl, congrArg Host.Outcome.next ((popPair_eq .af s).trans (State.setAf_wordOf _ _ _))⟩

/-- Settles O39, by `State.pop16_push16` and `popPair_pushPair`. -/
theorem pushThenPopRestores : Obligations.PushThenPopRestores := by
  refine ⟨fun s v => ?_, fun s p => ?_⟩
  · rw [State.pop16_push16]
    exact ⟨rfl, State.setSp_sp (s.push16 v) s.sp⟩
  · exact ⟨pushPair p s, popPair p (pushPair p s), exec_instr (.push p) s, exec_instr (.pop p) (pushPair p s),
      popPair_pushPair p s⟩

end Sys2Proof.Machine

/-! PROOFS. 8-bit arithmetic and logic (42_alu8.md R150 to R167), and the readings its parameter and that of the accumulator
rotates switch on (log entry 4). -/

namespace Sys2Proof.Machine

/-! ### Bytes as numbers -/

/-- The Z flag of a byte, read on its number. -/
theorem byte_beq_zero (v : Byte) : (v == 0#8) = decide (v.toNat = 0) := by
  rw [beq_eq_decide, decide_eq_decide, BitVec.toNat_eq]
  rfl

/-- The Z flag of a truncated number: it is a multiple of 256. -/
theorem ofNat_beq_zero (n : Nat) : (BitVec.ofNat 8 n == 0#8) = decide (n % 256 = 0) := by
  rw [byte_beq_zero, BitVec.toNat_ofNat]

theorem byte_not_eq_ofNat (v : Byte) : ~~~v = BitVec.ofNat 8 (255 - v.toNat) := by bv_omega

/-- A difference truncated to a byte is the same 512 higher, where it cannot go below zero. -/
theorem ofInt_sub_eq_ofNat (a b : Byte) (cin : Bool) :
    BitVec.ofInt 8 ((a.toNat : Int) - b.toNat - cin.toNat) = BitVec.ofNat 8 (a.toNat + 512 - b.toNat - cin.toNat) := by
  have hcin := cin.toNat_le
  apply BitVec.eq_of_toNat_eq
  rw [BitVec.toNat_ofInt, BitVec.toNat_ofNat]
  omega

/-! ### The results and their flags (R150 to R162) -/

/-- `Add8` with Z read on the sum (R150). -/
theorem add8_eq (a b : Byte) (cin : Bool) :
    add8 a b cin =
      (BitVec.ofNat 8 (a.toNat + b.toNat + cin.toNat),
        { z := decide ((a.toNat + b.toNat + cin.toNat) % 256 = 0)
          n := false
          h := decide (a.toNat % 16 + b.toNat % 16 + cin.toNat > 15)
          c := decide (a.toNat + b.toNat + cin.toNat > 255) }) := by
  rw [add8, ofNat_beq_zero]

/-- `Sub8` on natural numbers: the difference above 512, the borrow as a comparison (R151). -/
theorem sub8_eq (a b : Byte) (cin : Bool) :
    sub8 a b cin =
      (BitVec.ofNat 8 (a.toNat + 512 - b.toNat - cin.toNat),
        { z := decide ((a.toNat + 512 - b.toNat - cin.toNat) % 256 = 0)
          n := true
          h := decide (b.toNat % 16 + cin.toNat > a.toNat % 16)
          c := decide (b.toNat + cin.toNat > a.toNat) }) := by
  have hborrow : (a.toNat : Int) - b.toNat - cin.toNat < 0 ↔ b.toNat + cin.toNat > a.toNat := by omega
  simp only [sub8, ofInt_sub_eq_ofNat, hborrow, ofNat_beq_zero]

/-- `Sub8` without borrow-in: the difference above 256, zero when the operands are equal (R154, R159). -/
theorem sub8_false (a b : Byte) :
    sub8 a b false =
      (BitVec.ofNat 8 (a.toNat + 256 - b.toNat),
        { z := decide (a.toNat = b.toNat)
          n := true
          h := decide (b.toNat % 16 > a.toNat % 16)
          c := decide (b.toNat > a.toNat) }) := by
  have hresult : BitVec.ofNat 8 (a.toNat + 512 - b.toNat) = BitVec.ofNat 8 (a.toNat + 256 - b.toNat) := by bv_omega
  have hzero : (a.toNat + 512 - b.toNat) % 256 = 0 ↔ a.toNat = b.toNat := by omega
  rw [sub8_eq]
  simp only [Bool.toNat_false, Nat.sub_zero, Nat.add_zero, hresult, hzero]

/-- The flags of AND, XOR and OR with Z read on the result (R156 to R158). -/
theorem logicFlags_eq (r : Byte) (h : Bool) : logicFlags r h = { z := decide (r.toNat = 0), n := false, h := h, c := false } := by
  rw [logicFlags, byte_beq_zero]

/-- Increment with the result and Z read on the operand (R160). -/
theorem inc8_eq (orig : Byte) (f : Flags) :
    inc8 orig f =
      (BitVec.ofNat 8 (orig.toNat + 1),
        { z := decide (orig.toNat = 0xFF), n := false, h := decide (orig.toNat % 16 = 15), c := f.c }) := by
  have hzero : (orig.toNat + 1) % 256 = 0 ↔ orig.toNat = 0xFF := by omega
  simp only [inc8, byte_add_one_eq_ofNat, ofNat_beq_zero, hzero]

/-- Decrement with the result and Z read on the operand (R162). -/
theorem dec8_eq (orig : Byte) (f : Flags) :
    dec8 orig f =
      (BitVec.ofNat 8 (orig.toNat + 255),
        { z := decide (orig.toNat = 1), n := true, h := decide (orig.toNat % 16 = 0), c := f.c }) := by
  have hzero : (orig.toNat + 255) % 256 = 0 ↔ orig.toNat = 1 := by omega
  simp only [dec8, byte_sub_one_eq_ofNat, ofNat_beq_zero, hzero]

/-! ### An ALU instruction and its second operand (R167) -/

/-- `10 yyy zzz`, or `11 yyy 110` and the immediate. -/
theorem encode_aluInstrOf (op : AluOp) (x : AluArg) : encode (aluInstrOf op x) = aluBytes op x := by
  cases x with
  | r8 r => cases op <;> cases r <;> rfl
  | n8 n => cases op <;> rfl

/-- All nine second operands run the one operation on their value. -/
theorem exec_aluInstrOf (op : AluOp) (x : AluArg) (s : State) : exec (aluInstrOf op x) s = .next (aluByte op (x.value s) s) := by
  cases x with
  | r8 r => exact exec_instr (.alu op r) s
  | n8 n => exact exec_instr (.aluImm op n) s

/-- Every operation but CP writes its result to A and its flags, and nothing else. -/
theorem exec_aluInstrOf_of_ne_cp {op : AluOp} {x : AluArg} {s : State} {r : Byte} {f : Flags} (hop : op ≠ .cp)
    (h : aluResult op s.a (x.value s) s.flags = (r, f)) :
    exec (aluInstrOf op x) s = .next { s with a := r, flags := f } := by
  rw [exec_aluInstrOf]
  cases op with
  | cp => exact absurd rfl hop
  | _ => simp only [aluByte, h, State.setA, State.setFlags]

/-- CP writes its flags alone (R159). -/
theorem exec_aluInstrOf_cp {x : AluArg} {s : State} {r : Byte} {f : Flags}
    (h : aluResult .cp s.a (x.value s) s.flags = (r, f)) : exec (aluInstrOf .cp x) s = .next { s with flags := f } := by
  simp only [exec_aluInstrOf, aluByte, h, State.setFlags]

/-- AND, XOR and OR, once their result is known, leave it in A with the flags of R156 to R158. -/
theorem exec_logic {op : AluOp} {x : AluArg} {r : Byte} {s : State} (hop : op ≠ .cp)
    (h : aluResult op s.a (x.value s) s.flags = (r, logicFlags r false)) :
    exec (aluInstrOf op x) s =
      .next { s with a := r, flags := { z := decide (r.toNat = 0), n := false, h := false, c := false } } := by
  rw [exec_aluInstrOf_of_ne_cp hop h, logicFlags_eq]

/-! ### ADD to CP (R152 to R159) -/

/-- Settles O40: ADD is `Add8` without carry-in, ADC with the old carry. -/
theorem addAndAddWithCarry : Obligations.AddAndAddWithCarry := fun s x =>
  ⟨encode_aluInstrOf .add x, encode_aluInstrOf .adc x,
    exec_aluInstrOf_of_ne_cp nofun (add8_eq s.a (x.value s) false),
    exec_aluInstrOf_of_ne_cp nofun (add8_eq s.a (x.value s) s.flags.c)⟩

/-- Settles O41: SUB and CP are `Sub8` without borrow-in, SBC with the old carry, and CP keeps A. -/
theorem subtractAndCompare : Obligations.SubtractAndCompare := fun s x =>
  ⟨encode_aluInstrOf .sub x, encode_aluInstrOf .sbc x, encode_aluInstrOf .cp x,
    exec_aluInstrOf_of_ne_cp nofun (sub8_false s.a (x.value s)),
    exec_aluInstrOf_of_ne_cp nofun (sub8_eq s.a (x.value s) s.flags.c),
    exec_aluInstrOf_cp (sub8_false s.a (x.value s))⟩

/-- Settles O42: `exec_logic` three times; for AND it needs `AND_SETS_H` false. -/
theorem logicOperations : Obligations.LogicOperations := fun _ x =>
  ⟨rfl, encode_aluInstrOf .and x, encode_aluInstrOf .xor x, encode_aluInstrOf .or x,
    ⟨_, exec_logic nofun rfl, fun _ _ => BitVec.getLsbD_and, rfl⟩,
    ⟨_, exec_logic nofun rfl, fun _ _ => BitVec.getLsbD_xor, rfl⟩,
    ⟨_, exec_logic nofun rfl, fun _ _ => BitVec.getLsbD_or, rfl⟩⟩

/-! ### The readings of AND_SETS_H and ROTA_Z_FROM_RESULT (R156; 44_rotates_cb.md R190 to R193) -/

/-- Settles O43: `setsH` is H itself, and Z is switched between 0 and the result's being zero. -/
theorem parameterReadings : Obligations.ParameterReadings := by
  refine ⟨fun a b => rfl, fun k v cin => ?_⟩
  rw [accRotFlags, Bool.true_and, byte_beq_zero]
  rfl

/-! ### INC and DEC (R160 to R163) -/

/-- Flags play no part in what a claim says of a written operand. -/
theorem WritesOperand.setFlags {s t : State} {x : R8} {v : Byte} (h : WritesOperand s t x v) (f : Flags) :
    WritesOperand s (t.setFlags f) x v := by
  obtain ⟨hsp, hpc, hkeeps, hwritten⟩ := h
  refine ⟨hsp, hpc, fun r hr hx => (State.readR8_setFlags t r f).trans (hkeeps r hr hx), ?_⟩
  rw [State.readR8_setFlags]
  exact hwritten

/-- An instruction that writes one operand and then the flags. -/
theorem writesOperand_and_flags {i : Instr} {s : State} {x : R8} {v : Byte} {f : Flags}
    (h : exec i s = .next ((s.writeR8 x v).setFlags f)) : ∃ t, exec i s = .next t ∧ WritesOperand s t x v ∧ t.flags = f :=
  ⟨_, h, (writesOperand_writeR8 s x v).setFlags f, rfl⟩

/-- INC writes its operand and the flags with what `inc8_eq` says of the operand. -/
theorem exec_inc (x : R8) (s : State) :
    exec (Form.inc x).instr s =
      .next ((s.writeR8 x (BitVec.ofNat 8 ((s.readR8 x).toNat + 1))).setFlags
        { z := decide ((s.readR8 x).toNat = 0xFF), n := false, h := decide ((s.readR8 x).toNat % 16 = 15), c := s.flags.c }) := by
  rw [exec_instr, runForm, incR8, inc8_eq]

/-- DEC writes its operand and the flags with what `dec8_eq` says of the operand. -/
theorem exec_dec (x : R8) (s : State) :
    exec (Form.dec x).instr s =
      .next ((s.writeR8 x (BitVec.ofNat 8 ((s.readR8 x).toNat + 255))).setFlags
        { z := decide ((s.readR8 x).toNat = 1), n := true, h := decide ((s.readR8 x).toNat % 16 = 0), c := s.flags.c }) := by
  rw [exec_instr, runForm, decR8, dec8_eq]

/-- Settles O44, by `exec_inc` and `exec_dec`: both are a write of one operand and of the flags. -/
theorem incrementAndDecrementOperand : Obligations.IncrementAndDecrementOperand := by
  intro x s orig
  have hinc : encode (Form.inc x).instr = [BitVec.ofNat 8 (0x04 + 8 * x.field)] := by cases x <;> rfl
  have hdec : encode (Form.dec x).instr = [BitVec.ofNat 8 (0x05 + 8 * x.field)] := by cases x <;> rfl
  exact ⟨hinc, hdec, writesOperand_and_flags (exec_inc x s), writesOperand_and_flags (exec_dec x s)⟩

/-! ### CPL, SCF and CCF (R164 to R166) -/

/-- Settles O45: the complement of a byte is its difference from 255; the rest are updates of the flags. -/
theorem complementAndCarryInstructions : Obligations.ComplementAndCarryInstructions := by
  intro s
  rw [← byte_not_eq_ofNat]
  exact ⟨rfl, rfl, rfl, rfl, rfl, rfl⟩

end Sys2Proof.Machine

/-! PROOFS. 16-bit arithmetic on the pairs (43_alu16.md R180 to R182). -/

namespace Sys2Proof

theorem word_add_one_eq_ofNat (v : Word) : v + 1#16 = BitVec.ofNat 16 (v.toNat + 1) := by bv_omega

theorem word_sub_one_eq_ofNat (v : Word) : v - 1#16 = BitVec.ofNat 16 (v.toNat + 65535) := by bv_omega

end Sys2Proof

namespace Sys2Proof.Machine

/-! ### A pair and the flags -/

/-- Reading a pair does not depend on the flags. -/
@[simp] theorem State.readR16_setFlags (s : State) (p : R16) (f : Flags) : (s.setFlags f).readR16 p = s.readR16 p := by
  cases p <;> rfl

/-- Flags play no part in what a claim says of a written pair. -/
theorem WritesPair.setFlags {s t : State} {p : R16} {v : Word} (h : WritesPair s t p v) (f : Flags) :
    WritesPair s (t.setFlags f) p v := by
  obtain ⟨hwritten, hkeeps, ha, hpc, hmem⟩ := h
  exact ⟨(State.readR16_setFlags t p f).trans hwritten, fun q hq => (State.readR16_setFlags t q f).trans (hkeeps q hq),
    ha, hpc, hmem⟩

/-! ### INC rr and DEC rr (R181, R182) -/

/-- INC rr writes its pair alone, the sum read as a number. -/
theorem exec_incPair (p : R16) (s : State) :
    exec (Form.incPair p).instr s = .next (s.writeR16 p (BitVec.ofNat 16 ((s.readR16 p).toNat + 1))) := by
  rw [exec_instr, runForm, incR16, word_add_one_eq_ofNat]

/-- DEC rr writes its pair alone, one less being 65535 more. -/
theorem exec_decPair (p : R16) (s : State) :
    exec (Form.decPair p).instr s = .next (s.writeR16 p (BitVec.ofNat 16 ((s.readR16 p).toNat + 65535))) := by
  rw [exec_instr, runForm, decR16, word_sub_one_eq_ofNat]

/-- An instruction that writes one pair and nothing else keeps the flags. -/
theorem writesPair_and_keeps_flags {i : Instr} {s : State} {p : R16} {v : Word}
    (h : exec i s = .next (s.writeR16 p v)) : ∃ t, exec i s = .next t ∧ WritesPair s t p v ∧ t.flags = s.flags :=
  ⟨_, h, writesPair_writeR16 s p v, State.writeR16_flags s p v⟩

/-- Settles O47, by `exec_incPair` and `exec_decPair`: both are a write of one pair and nothing else. -/
theorem incrementAndDecrementPair : Obligations.IncrementAndDecrementPair := by
  intro p s
  have hinc : encode (Form.incPair p).instr = [BitVec.ofNat 8 (0x03 + 16 * p.field)] := by cases p <;> rfl
  have hdec : encode (Form.decPair p).instr = [BitVec.ofNat 8 (0x0B + 16 * p.field)] := by cases p <;> rfl
  exact ⟨hinc, hdec, writesPair_and_keeps_flags (exec_incPair p s), writesPair_and_keeps_flags (exec_decPair p s)⟩

end Sys2Proof.Machine

namespace Sys2Proof

open Machine

/-! ### ADD HL,rr (R180) -/

/-- Settles O46: ADD HL,rr writes the pair HL and then the flags, both computed by `addHl16` on the state before. -/
theorem addPairToHl : Obligations.AddPairToHl := by
  intro p s hl val
  have hencode : encode (Form.addHl p).instr = [BitVec.ofNat 8 (0x09 + 16 * p.field)] := by cases p <;> rfl
  have hwrites : WritesPair s (s.setHl (BitVec.ofNat 16 (hl + val))) .hl (BitVec.ofNat 16 (hl + val)) :=
    writesPair_writeR16 s .hl _
  exact ⟨hencode, _, exec_instr (.addHl p) s, hwrites.setFlags _, rfl⟩

end Sys2Proof

/-! PROOFS. Rotates, shifts and bit operations (44_rotates_cb.md R190 to R205). -/

namespace Sys2Proof.Machine

/-! ### A bit shifted in (R194) -/

theorem getLsbD_carryByte (c : Bool) (i : Nat) : (carryByte c).getLsbD i = (decide (i = 0) && c) := by
  cases c <;> simp [carryByte, BitVec.getLsbD_one]

/-- Shifting left moves a bit in at the bottom. -/
theorem getLsbD_shiftLeft_or_carryByte (v : Byte) (c : Bool) {i : Nat} (hi : i < 8) :
    ((v <<< 1) ||| carryByte c).getLsbD i = if i = 0 then c else v.getLsbD (i - 1) := by
  rw [BitVec.getLsbD_or, BitVec.getLsbD_shiftLeft, getLsbD_carryByte]
  cases i with
  | zero => simp
  | succ i => simp [hi]

/-- Shifting right moves a bit in at the top. -/
theorem getLsbD_ushiftRight_or_carryByte (v : Byte) (c : Bool) {i : Nat} (hi : i < 8) :
    ((v >>> 1) ||| (carryByte c <<< 7)).getLsbD i = if i = 7 then c else v.getLsbD (i + 1) := by
  rw [BitVec.getLsbD_or, BitVec.getLsbD_ushiftRight, BitVec.getLsbD_shiftLeft, getLsbD_carryByte, Nat.add_comm]
  rcases Nat.lt_succ_iff_lt_or_eq.mp hi with hlow | rfl
  · simp [hlow, hlow.ne]
  · simp

/-- A byte rotated left is shifted left with its own top bit moved in. -/
theorem shiftLeft_or_carryByte_msb (v : Byte) : (v <<< 1) ||| carryByte v.msb = v.rotateLeft 1 := by
  refine BitVec.eq_of_getLsbD_eq fun i hi => ?_
  rw [getLsbD_shiftLeft_or_carryByte _ _ hi, BitVec.getLsbD_rotateLeft]
  interval_cases i <;> rfl

/-- A byte rotated right is shifted right with its own lowest bit moved in. -/
theorem ushiftRight_or_carryByte_lsb (v : Byte) :
    (v >>> 1) ||| (carryByte (v.getLsbD 0) <<< 7) = v.rotateRight 1 := by
  refine BitVec.eq_of_getLsbD_eq fun i hi => ?_
  rw [getLsbD_ushiftRight_or_carryByte _ _ hi, BitVec.getLsbD_rotateRight]
  interval_cases i <;> rfl

/-! ### The nine bits of a byte and C (R197, R198) -/

theorem getLsbD_append_ofBool (v : Byte) (c : Bool) (i : Nat) :
    (v ++ BitVec.ofBool c).getLsbD i = if i = 0 then c else v.getLsbD (i - 1) := by
  rw [BitVec.getLsbD_append]
  cases i with
  | zero => simp
  | succ i => simp

theorem getLsbD_ofBool_append (c : Bool) (v : Byte) (i : Nat) :
    (BitVec.ofBool c ++ v).getLsbD i = if i < 8 then v.getLsbD i else decide (i = 8) && c := by
  have htop : i - 8 = 0 ∧ ¬i < 8 ↔ i = 8 := by omega
  rw [BitVec.getLsbD_append, BitVec.getLsbD_ofBool]
  split
  case isTrue => rfl
  case isFalse h => simp only [← htop, h, not_false_eq_true, and_true]

/-- Rotating nine bits left takes C from the top to the bottom. -/
theorem rotateLeft_ofBool_append (c : Bool) (v : Byte) :
    (BitVec.ofBool c ++ v).rotateLeft 1 = v ++ BitVec.ofBool c := by
  refine BitVec.eq_of_getLsbD_eq fun i hi => ?_
  rw [BitVec.getLsbD_rotateLeft, getLsbD_ofBool_append, getLsbD_ofBool_append, getLsbD_append_ofBool]
  interval_cases i <;> rfl

/-- Rotating nine bits right takes C from the bottom to the top. -/
theorem rotateRight_append_ofBool (v : Byte) (c : Bool) :
    (v ++ BitVec.ofBool c).rotateRight 1 = BitVec.ofBool c ++ v := by
  refine BitVec.eq_of_getLsbD_eq fun i hi => ?_
  rw [BitVec.getLsbD_rotateRight, getLsbD_append_ofBool, getLsbD_append_ofBool, getLsbD_ofBool_append]
  interval_cases i <;> rfl

/-- What RL moves out, above the byte it leaves, is the nine bits rotated left. -/
theorem ofBool_append_shiftLeft_or_carryByte (v : Byte) (c : Bool) :
    BitVec.ofBool v.msb ++ ((v <<< 1) ||| carryByte c) = (BitVec.ofBool c ++ v).rotateLeft 1 := by
  rw [rotateLeft_ofBool_append]
  refine BitVec.eq_of_getLsbD_eq fun i hi => ?_
  rw [getLsbD_ofBool_append, getLsbD_append_ofBool]
  rcases Nat.lt_succ_iff_lt_or_eq.mp hi with hlow | rfl
  · rw [if_pos hlow, getLsbD_shiftLeft_or_carryByte _ _ hlow]
  · rfl

/-- What RR moves out, below the byte it leaves, is the nine bits rotated right. -/
theorem ushiftRight_or_carryByte_append_ofBool (v : Byte) (c : Bool) :
    ((v >>> 1) ||| (carryByte c <<< 7)) ++ BitVec.ofBool (v.getLsbD 0) = (v ++ BitVec.ofBool c).rotateRight 1 := by
  rw [rotateRight_append_ofBool]
  refine BitVec.eq_of_getLsbD_eq fun i hi => ?_
  rw [getLsbD_append_ofBool, getLsbD_ofBool_append]
  cases i with
  | zero => rfl
  | succ i =>
    have hlow : i < 8 := Nat.lt_of_succ_lt_succ hi
    rw [if_neg i.succ_ne_zero, Nat.add_sub_cancel, getLsbD_ushiftRight_or_carryByte _ _ hlow]
    interval_cases i <;> rfl

/-! ### The results of `Rot` (R195 to R202) -/

theorem rot8_rlc (v : Byte) (cin : Bool) : rot8 .rlc v cin = (v.rotateLeft 1, v.msb) :=
  Prod.ext (shiftLeft_or_carryByte_msb v) rfl

theorem rot8_rrc (v : Byte) (cin : Bool) : rot8 .rrc v cin = (v.rotateRight 1, v.getLsbD 0) :=
  Prod.ext (ushiftRight_or_carryByte_lsb v) rfl

theorem rot8_rl (v : Byte) (cin : Bool) :
    rot8 .rl v cin = (((BitVec.ofBool cin ++ v).rotateLeft 1).setWidth 8, v.msb) := by
  rw [← ofBool_append_shiftLeft_or_carryByte, BitVec.setWidth_append_eq_right]
  rfl

theorem rot8_rr (v : Byte) (cin : Bool) :
    rot8 .rr v cin = (((v ++ BitVec.ofBool cin).rotateRight 1).extractLsb' 1 8, v.getLsbD 0) := by
  rw [← ushiftRight_or_carryByte_append_ofBool, BitVec.extractLsb'_append_eq_left]
  rfl

/-- The lowest bit of a byte is its parity. -/
theorem getLsbD_zero_eq_decide (v : Byte) : v.getLsbD 0 = decide (v.toNat % 2 = 1) := Nat.testBit_zero v.toNat

theorem rot8_sla (v : Byte) (cin : Bool) :
    rot8 .sla v cin = (BitVec.ofNat 8 (2 * v.toNat), decide (v.toNat ≥ 128)) :=
  Prod.ext (by simp only [rot8]; bv_omega) (getLsbD_seven_eq_decide v)

/-- Keeping the top bit while shifting right halves the signed byte. -/
theorem ushiftRight_or_sign_eq_ofInt (v : Byte) : (v >>> 1) ||| (v &&& 0x80#8) = BitVec.ofInt 8 (v.toInt / 2) := by
  have hsigned : v.sshiftRight 1 = BitVec.ofInt 8 (v.toInt / 2) := by
    rw [BitVec.sshiftRight_eq, Int.shiftRight_eq_div_pow, Nat.pow_one, Nat.cast_ofNat]
  rw [← hsigned]
  refine BitVec.eq_of_getLsbD_eq fun i hi => ?_
  rw [BitVec.getLsbD_or, BitVec.getLsbD_ushiftRight, BitVec.getLsbD_and, BitVec.getLsbD_sshiftRight,
    BitVec.msb_eq_getLsbD_last]
  interval_cases i <;> simp

theorem rot8_sra (v : Byte) (cin : Bool) :
    rot8 .sra v cin = (BitVec.ofInt 8 (v.toInt / 2), decide (v.toNat % 2 = 1)) :=
  Prod.ext (ushiftRight_or_sign_eq_ofInt v) (getLsbD_zero_eq_decide v)

/-- The low nibble moved up and the high nibble moved down stand side by side. -/
theorem nibbles_exchanged_eq_ofNat (v : Byte) :
    ((v &&& 0x0F#8) <<< 4) ||| (v >>> 4) = BitVec.ofNat 8 (16 * (v.toNat % 16) + v.toNat / 16) := by
  have hlow : ((v &&& 0x0F#8) <<< 4).toNat = 2 ^ 4 * (v.toNat % 16) := by
    have hmask : v.toNat &&& 0x0F = v.toNat % 16 := Nat.and_two_pow_sub_one_eq_mod v.toNat 4
    rw [BitVec.toNat_shiftLeft, BitVec.toNat_and, BitVec.toNat_ofNat, hmask, Nat.shiftLeft_eq]
    omega
  have hhigh : (v >>> 4).toNat = v.toNat / 16 := by rw [BitVec.toNat_ushiftRight, Nat.shiftRight_eq_div_pow]
  apply BitVec.eq_of_toNat_eq
  rw [BitVec.toNat_or, hlow, hhigh, ← Nat.two_pow_add_eq_or_of_lt (by omega), BitVec.toNat_ofNat]
  omega

theorem rot8_swap (v : Byte) (cin : Bool) :
    rot8 .swap v cin = (BitVec.ofNat 8 (16 * (v.toNat % 16) + v.toNat / 16), false) :=
  Prod.ext (nibbles_exchanged_eq_ofNat v) rfl

theorem rot8_srl (v : Byte) (cin : Bool) :
    rot8 .srl v cin = (BitVec.ofNat 8 (v.toNat / 2), decide (v.toNat % 2 = 1)) :=
  Prod.ext (by simp only [rot8]; bv_omega) (getLsbD_zero_eq_decide v)

/-! ### RLCA to RRA (R190 to R193) -/

/-- Settles O48: `rot8_rlc` and `rot8_rrc` rotate the byte, `ofBool_append_shiftLeft_or_carryByte` and
`ushiftRight_or_carryByte_append_ofBool` the nine bits; Z is 0 since `ROTA_Z_FROM_RESULT` is false. -/
theorem accumulatorRotates : Obligations.AccumulatorRotates := by
  intro s flags
  have hrlca : rotateA .rlca s = { s with a := s.a.rotateLeft 1, flags := flags s.a.msb } := by
    rw [rotateA, accRotOp, rot8_rlc]; rfl
  have hrrca : rotateA .rrca s = { s with a := s.a.rotateRight 1, flags := flags (s.a.getLsbD 0) } := by
    rw [rotateA, accRotOp, rot8_rrc]; rfl
  exact ⟨rfl, rfl, rfl, rfl, rfl, congrArg Host.Outcome.next hrlca, congrArg Host.Outcome.next hrrca,
    ⟨_, rfl, rfl, ofBool_append_shiftLeft_or_carryByte s.a s.flags.c, rfl⟩,
    ⟨_, rfl, rfl, ushiftRight_or_carryByte_append_ofBool s.a s.flags.c, rfl⟩⟩

/-! ### The prefixed rotates and shifts (R195 to R202) -/

/-- Prefixed `00 yyy zzz`. -/
theorem encode_rot (k : RotOp) (x : R8) :
    encode (Form.rot k x).instr = [0xCB#8, BitVec.ofNat 8 (8 * k.field + x.field)] := by
  cases k <;> cases x <;> rfl

/-- Once the result is known, the operand receives it, and Z follows it. -/
theorem exec_rot {k : RotOp} {x : R8} {s : State} {r : Byte} {c : Bool} (h : rot8 k (s.readR8 x) s.flags.c = (r, c)) :
    ∃ t, exec (Form.rot k x).instr s = .next t ∧ WritesOperand s t x r ∧
      t.flags = { z := decide (r = 0#8), n := false, h := false, c := c } := by
  apply writesOperand_and_flags
  rw [exec_instr, runForm, rotateR8, h, rotFlags, beq_eq_decide]

/-- Settles O49, by `exec_rot`: the results of RLC and RRC are rotates of the byte, those of RL and RR of nine bits. -/
theorem prefixedRotates : Obligations.PrefixedRotates := by
  intro x s v flags rl rr
  have hrlc : encode (Form.rot .rlc x).instr = [0xCB#8, BitVec.ofNat 8 x.field] := by
    rw [encode_rot, RotOp.field, Nat.mul_zero, Nat.zero_add]
  exact ⟨⟨hrlc, exec_rot (rot8_rlc _ _)⟩, ⟨encode_rot .rrc x, exec_rot (rot8_rrc _ _)⟩,
    ⟨encode_rot .rl x, exec_rot (rot8_rl _ _)⟩, encode_rot .rr x, exec_rot (rot8_rr _ _)⟩

/-- Settles O50, by `exec_rot` and the arithmetic reading of each result. -/
theorem prefixedShiftsAndSwap : Obligations.PrefixedShiftsAndSwap := fun x _ =>
  ⟨⟨encode_rot .sla x, exec_rot (rot8_sla _ _)⟩, ⟨encode_rot .sra x, exec_rot (rot8_sra _ _)⟩,
    ⟨encode_rot .swap x, exec_rot (rot8_swap _ _)⟩, encode_rot .srl x, exec_rot (rot8_srl _ _)⟩

/-! ### BIT, RES and SET (R203 to R205) -/

/-- A bit that is 0, read on the byte's number. -/
theorem not_getLsbD_eq_decide (v : Byte) (i : Nat) : (!v.getLsbD i) = decide (v.toNat / 2 ^ i % 2 = 0) := by
  rw [BitVec.getLsbD, Nat.testBit_eq_decide_div_mod_eq, ← decide_not, decide_eq_decide, Nat.mod_two_not_eq_one]

/-- Settles O51: BIT sets the flags alone, with Z the complement of the bit. -/
theorem bitTestsOneBit : Obligations.BitTestsOneBit := by
  intro b x s
  have hencode : encode (Form.bit b x).instr = [0xCB#8, BitVec.ofNat 8 (0x40 + 8 * b.field + x.field)] := by
    cases b <;> cases x <;> rfl
  refine ⟨hencode, ?_⟩
  rw [exec_instr, runForm, testBit, bitFlags, not_getLsbD_eq_decide]
  rfl

/-- The mask `1 << b` has bit `b` alone. -/
theorem getLsbD_one_shiftLeft (b : Idx) (k : Nat) : (1#8 <<< b.field).getLsbD k = decide (k = b.field) := by
  have hb : b.field < 8 := by cases b <;> decide
  rw [← BitVec.twoPow_eq, BitVec.getLsbD_twoPow, decide_eq_true hb, Bool.true_and, decide_eq_decide, eq_comm]

/-- The complement of the mask clears that bit and keeps the others. -/
theorem getLsbD_and_not_mask (v : Byte) (b : Idx) {k : Nat} (hk : k < 8) :
    (v &&& ~~~(1#8 <<< b.field)).getLsbD k = if k = b.field then false else v.getLsbD k := by
  rw [BitVec.getLsbD_and, BitVec.getLsbD_not, getLsbD_one_shiftLeft]
  split
  case isTrue h => simp [h]
  case isFalse h => simp [h, hk]

/-- The mask sets that bit and keeps the others. -/
theorem getLsbD_or_mask (v : Byte) (b : Idx) (k : Nat) :
    (v ||| (1#8 <<< b.field)).getLsbD k = if k = b.field then true else v.getLsbD k := by
  rw [BitVec.getLsbD_or, getLsbD_one_shiftLeft]
  split
  case isTrue h => simp [h]
  case isFalse h => simp [h]

/-- Settles O52: both write one operand and nothing else; the mask lemmas say which bit of it changes. -/
theorem resetAndSetOneBit : Obligations.ResetAndSetOneBit := by
  intro b x s
  have hres : encode (Form.res b x).instr = [0xCB#8, BitVec.ofNat 8 (0x80 + 8 * b.field + x.field)] := by
    cases b <;> cases x <;> rfl
  have hset : encode (Form.set b x).instr = [0xCB#8, BitVec.ofNat 8 (0xC0 + 8 * b.field + x.field)] := by
    cases b <;> cases x <;> rfl
  exact ⟨hres, hset,
    ⟨_, _, exec_instr (.res b x) s, writesOperand_writeR8 s x _, State.writeR8_flags s x _,
      fun _ hk => getLsbD_and_not_mask (s.readR8 x) b hk⟩,
    ⟨_, _, exec_instr (.set b x) s, writesOperand_writeR8 s x _, State.writeR8_flags s x _,
      fun k _ => getLsbD_or_mask (s.readR8 x) b k⟩⟩

end Sys2Proof.Machine

/-! PROOFS. Control transfer (45_control.md R220 to R231). -/

namespace Sys2Proof

/-- The target of a relative jump, as the spec writes it: PC plus the signed displacement (R224). -/
theorem add_sext16_eq_ofInt (v : Word) (e : Byte) : v + sext16 e = BitVec.ofInt 16 (v.toNat + e.toInt) := by
  calc v + sext16 e = BitVec.ofInt 16 v.toNat + BitVec.ofInt 16 e.toInt := by
        rw [BitVec.ofInt_natCast, BitVec.ofNat_toNat, BitVec.setWidth_eq, sext16, BitVec.signExtend]
    _ = BitVec.ofInt 16 (v.toNat + e.toInt) := (BitVec.ofInt_add _ _).symm

end Sys2Proof

namespace Sys2Proof.Machine

/-! ### NOP (R220) -/

/-- Settles O54: the byte 0x00 at PC is the encoding of NOP, which the step then runs. -/
theorem nopChangesOnlyPc : Obligations.NopChangesOnlyPc := by
  refine fun s => ⟨rfl, rfl, fun h => stepRunsDecodedInstruction s .nop rfl fun k hk => ?_⟩
  obtain rfl : k = 0 := Nat.lt_one_iff.mp hk
  rwa [BitVec.add_zero]

/-! ### JP and JR (R221 to R225) -/

theorem Flags.holds_nz (f : Flags) : f.holds .nz = true ↔ f.z = false := by rw [Flags.holds, Bool.not_eq_true']
theorem Flags.holds_nc (f : Flags) : f.holds .nc = true ↔ f.c = false := by rw [Flags.holds, Bool.not_eq_true']

/-- A jump on NZ goes when Z is clear. -/
theorem ite_holds_nz (f : Flags) (t s : State) : (if f.holds .nz then t else s) = if f.z = false then t else s :=
  if_congr f.holds_nz rfl rfl

/-- A jump on NC goes when C is clear. -/
theorem ite_holds_nc (f : Flags) (t s : State) : (if f.holds .nc then t else s) = if f.c = false then t else s :=
  if_congr f.holds_nc rfl rfl

/-- Settles O55: each jump sets PC alone, a conditional one when its condition holds. -/
theorem absoluteJumps : Obligations.AbsoluteJumps := by
  intro s n
  rw [← loByte_eq_ofNat, ← hiByte_eq_ofNat, ← wordOf_eq_ofNat]
  refine ⟨?encodings, rfl, rfl, rfl, congrArg _ (ite_holds_nz _ _ _), rfl, congrArg _ (ite_holds_nc _ _ _), rfl⟩
  case encodings =>
    simp only [List.forall_mem_cons]
    exact ⟨rfl, rfl, rfl, rfl, rfl, nofun⟩

/-- Settles O56: each jump sets PC alone, to the target `add_sext16_eq_ofInt` reads as the statement does. -/
theorem relativeJumps : Obligations.RelativeJumps := by
  intro s e
  rw [← add_sext16_eq_ofInt]
  refine ⟨?encodings, rfl, congrArg _ (ite_holds_nz _ _ _), rfl, congrArg _ (ite_holds_nc _ _ _), rfl⟩
  case encodings =>
    simp only [List.forall_mem_cons]
    exact ⟨rfl, rfl, rfl, rfl, rfl, nofun⟩

/-! ### The conditional families (R231) -/

/-- A family makes its transfer when the condition holds, and otherwise changes nothing. -/
def TransfersIf (cc : Cond) (f : Form) (transfer : State → State) : Prop :=
  ∀ s, runForm f s = .next (if s.flags.holds cc then transfer s else s)

theorem transfersIf_jpCond (cc : Cond) (n : Word) : TransfersIf cc (.jpCond cc n) (jump n) := fun _ => rfl
theorem transfersIf_jrCond (cc : Cond) (e : Byte) : TransfersIf cc (.jrCond cc e) (jumpRel e) := fun _ => rfl
theorem transfersIf_callCond (cc : Cond) (n : Word) : TransfersIf cc (.callCond cc n) (callSub n) := fun _ => rfl
theorem transfersIf_retCond (cc : Cond) : TransfersIf cc (.retCond cc) returnSub := fun _ => rfl

/-- A step that fetched an instruction runs it with PC past its bytes. -/
theorem step_of_fetchDecode_fst {s : State} {i : Instr} (h : s.fetchDecode.1 = .instr i []) :
    step s = exec i (s.setPc (s.pc + BitVec.ofNat 16 (encode i).length)) := by
  obtain ⟨j, -, hbytes, hfetch⟩ := s.fetchDecode_eq
  rw [hfetch] at h
  obtain ⟨rfl, -⟩ := Decoded.instr.inj h
  have hlen : (encode j).length = instrLength (s.memRead s.pc) := by simp [hbytes, State.instrBytes]
  rw [step_of_fetchDecode hfetch, hlen]

section Conditional

variable {cc : Cond} {f : Form} {transfer : State → State} {s : State}

theorem TransfersIf.exec_taken (h : TransfersIf cc f transfer) (hcc : s.flags.holds cc = true) :
    exec f.instr s = .next (transfer s) := by
  rw [exec_instr, h, if_pos hcc]

theorem TransfersIf.exec_untaken (h : TransfersIf cc f transfer) (hcc : s.flags.holds cc = false) :
    exec f.instr s = .next s := by
  rw [exec_instr, h, if_neg (Bool.eq_false_iff.mp hcc)]

/-- The fetch leaves the flags, so the condition fails in the step as it does before it. -/
theorem TransfersIf.step_untaken (h : TransfersIf cc f transfer) (hcc : s.flags.holds cc = false) {len : Nat}
    (hlen : (encode f.instr).length = len) (hfetch : s.fetchDecode.1 = .instr f.instr []) :
    step s = .next (s.setPc (s.pc + BitVec.ofNat 16 len)) := by
  rw [step_of_fetchDecode_fst hfetch, hlen]
  exact h.exec_untaken hcc

end Conditional

/-- Settles O59: a condition that is false on the flags fails, and `TransfersIf` says what the four families then do. -/
theorem falseConditionChangesNothing : Obligations.FalseConditionChangesNothing := by
  intro s cc n e h
  have hcc : s.flags.holds cc = false := by
    cases cc with
    | nz | nc => exact congrArg (! ·) h
    | z | c => exact h
  have hjp := transfersIf_jpCond cc n
  have hjr := transfersIf_jrCond cc e
  have hcall := transfersIf_callCond cc n
  have hret := transfersIf_retCond cc
  exact ⟨⟨hjp.exec_untaken hcc, hjr.exec_untaken hcc, hcall.exec_untaken hcc, hret.exec_untaken hcc⟩,
    hjp.step_untaken hcc (by cases cc <;> rfl), hjr.step_untaken hcc (by cases cc <;> rfl),
    hcall.step_untaken hcc (by cases cc <;> rfl), hret.step_untaken hcc (by cases cc <;> rfl)⟩

/-! ### CALL and RST (R226, R227, R230) -/

/-- An instruction that calls `n` pushes PC, as `Push16` does, and sets PC. -/
theorem exec_calls {i : Instr} {s : State} {n : Word} (h : exec i s = .next (callSub n s)) :
    ∃ t, exec i s = .next t ∧ t.pc = n ∧ t.sp = s.sp - 2#16 ∧ StoresWord s t (s.sp - 2#16) s.pc ∧
      t = { s with pc := t.pc, sp := t.sp, mem := t.mem } :=
  ⟨callSub n s, h, rfl, State.push16_sp s s.pc, storesWord_push16 s s.pc,
    congrArg (State.setPc · n) (State.push16_frame s s.pc)⟩

/-- `11 0cc 100`, then the word, low byte first. -/
theorem encode_callCond (cc : Cond) (n : Word) :
    encode (Form.callCond cc n).instr = [BitVec.ofNat 8 (0xC4 + 8 * cc.field), loByte n, hiByte n] := by
  cases cc <;> rfl

/-- Settles O57: CALL, a taken CALL cc and RST are calls (`exec_calls`). -/
theorem callsPushReturnAddress : Obligations.CallsPushReturnAddress := by
  intro s n cc v calls
  have hrst : encode (Form.rst v).instr = [BitVec.ofNat 8 (0xC7 + 8 * v.field)] := by cases v <;> rfl
  have hvector : restartVector v = BitVec.ofNat 16 (8 * v.field) := congrArg _ (Nat.mul_comm _ _)
  rw [← loByte_eq_ofNat, ← hiByte_eq_ofNat, ← hvector]
  have hcond := transfersIf_callCond cc n
  exact ⟨rfl, exec_calls rfl, encode_callCond cc n, fun hcc => exec_calls (hcond.exec_taken hcc), hcond.exec_untaken,
    hrst, exec_calls (exec_instr (.rst v) s)⟩

/-! ### RET (R228, R229) -/

/-- RET as one update: PC receives the word at SP, and SP is two higher. -/
theorem returnSub_eq (s : State) :
    returnSub s = { s with pc := wordOf (s.memRead (s.sp + 1#16)) (s.memRead s.sp), sp := s.sp + 2#16 } := by
  rw [returnSub, State.pop16_eq]
  rfl

/-- RET does not depend on PC. -/
theorem returnSub_setPc (s : State) (v : Word) : returnSub (s.setPc v) = returnSub s := by
  rw [returnSub_eq, returnSub_eq]
  rfl

/-- CALL then RET leaves only the two bytes in memory, wherever the subroutine's RET stands. -/
theorem returnSub_callSub (s : State) (n v : Word) :
    returnSub ((callSub n s).setPc v) = s.withMem (callSub n s).mem := by
  calc returnSub ((callSub n s).setPc v) = returnSub (s.push16 s.pc) := by
        rw [returnSub_setPc, callSub, jump, returnSub_setPc]
    _ = (s.withMem (s.push16 s.pc).mem).setPc s.pc := by
        rw [returnSub, State.pop16_push16, State.push16_setSp]
        rfl
    _ = s.withMem (callSub n s).mem := rfl

/-- Settles O58: RET is `returnSub_eq`, and CALL then RET `returnSub_callSub`. -/
theorem returnsPopPc : Obligations.ReturnsPopPc := by
  intro s cc popped
  have hpopped : returnSub s = popped := by rw [returnSub_eq, wordOf_eq_ofNat]
  have hencode : encode (Form.retCond cc).instr = [BitVec.ofNat 8 (0xC0 + 8 * cc.field)] := by cases cc <;> rfl
  have hcond := transfersIf_retCond cc
  rw [← hpopped]
  exact ⟨rfl, rfl, hencode, hcond.exec_taken, hcond.exec_untaken,
    fun n => ⟨callSub n s, rfl, fun v => congrArg Host.Outcome.next (returnSub_callSub s n v)⟩⟩

end Sys2Proof.Machine

/-! PROOFS. The faulting opcodes (46_system.md R250 to R256). -/

namespace Sys2Proof.Machine

/-- The row of a faulting opcode is its opcode byte alone. -/
theorem encode_stops (k : Stop) : encode (Form.stops k).instr = [k.opcode] := by
  cases k <;> rfl

/-- A faulting opcode raises the fault at the byte before PC, in every state. -/
theorem exec_stops (k : Stop) (s : State) :
    exec (Form.stops k).instr s = .fault (.unimplementedOpcode k.opcode false (s.pc - 1#16)) :=
  exec_instr (.stops k) s

/-- Settles O8: each row of the statement's list is the instruction and the opcode of one `Stop`, which `encode_stops` and
`exec_stops` describe. -/
theorem faultingOpcodesRaise : Obligations.FaultingOpcodesRaise := by
  intro s
  have raises (k : Stop) := And.intro (encode_stops k) (exec_stops k s)
  simp only [List.forall_mem_cons]
  exact ⟨raises .daa, raises .halt, raises .stop, raises .di, raises .ei, raises .reti, raises .d3, raises .db, raises .dd,
    raises .e3, raises .e4, raises .eb, raises .ec, raises .ed, raises .f4, raises .fc, raises .fd, nofun⟩

end Sys2Proof.Machine

/-! PROOFS. The canonical form of memory (20_memory.md sections 1 and 5; log entry 17). -/

namespace Sys2Proof.Machine

/-! ### Reset, load and step keep it -/

/-- Loading an image is a row of writes, each of which keeps the canonical form. -/
theorem State.canonical_hostLoad {s : State} (h : s.Canonical) (base : Word) (image : List Byte) :
    (s.hostLoad base image).Canonical := by
  induction image generalizing s base with
  | nil => exact h
  | cons v vs ih => exact ih (State.wf_memWrite base v h) (base + 1#16)

/-- Settles O10: reset lists nothing, and `canonical_hostLoad` takes the form through the load. -/
theorem launchMemoryCanonical : Obligations.LaunchMemoryCanonical :=
  ⟨rfl, fun r base image => State.canonical_hostLoad (s := .resetWith r) rfl base image⟩

/-- Settles O11: the fetch moves PC alone, and the instruction keeps the form by `exec_wf`, its memory being the replay of
its writes. -/
theorem stepKeepsMemoryCanonical : Obligations.StepKeepsMemoryCanonical := by
  intro s t hs hstep
  obtain ⟨i, -, -, hexec⟩ := step_cases s
  rw [hexec] at hstep
  exact exec_wf ((congrArg Memory.wf (State.setPc_mem _ _)).trans hs) hstep

/-! ### Equal reads, equal data -/

theorem Memory.read_cons_self (k : Nat) (v : Byte) (rest : Memory) : Memory.read ((k, v) :: rest) k = v := if_pos rfl

theorem Memory.read_cons_other {k addr : Nat} (v : Byte) (rest : Memory) (h : k ≠ addr) :
    Memory.read ((k, v) :: rest) addr = Memory.read rest addr := if_neg h

/-- A canonical memory that reads, at the first address of another, what that one lists there has its own first address no
higher: below it, it would read as unlisted. -/
theorem Memory.head_le_of_read_eq {lo lo' k k' : Nat} {v v' : Byte} {m m' : Memory}
    (hm : Memory.wfFrom lo ((k, v) :: m) = true) (hm' : Memory.wfFrom lo' ((k', v') :: m') = true)
    (h : Memory.read ((k, v) :: m) k = Memory.read ((k', v') :: m') k) : k' ≤ k := by
  obtain ⟨-, -, hv, -⟩ := Memory.wfFrom_cons.mp hm
  obtain ⟨-, hrest'⟩ := Memory.wfFrom_cons.mp hm'
  have hfrom : Memory.wfFrom k' ((k', v') :: m') = true := Memory.wfFrom_cons.mpr ⟨le_rfl, hrest'⟩
  rw [Memory.read_cons_self] at h
  by_contra hlt
  exact hv (h.trans (Memory.read_of_lt hfrom (Nat.lt_of_not_le hlt)))

/-- Canonical memories that read alike are the same list. -/
theorem Memory.eq_of_read_eq {lo : Nat} {m m' : Memory} (hm : Memory.wfFrom lo m = true)
    (hm' : Memory.wfFrom lo m' = true) (h : ∀ addr < 65536, m.read addr = m'.read addr) : m = m' := by
  induction m generalizing lo m' with
  | nil =>
    cases m' with
    | nil => rfl
    | cons x' rest' =>
      obtain ⟨-, hk', hv', -⟩ := Memory.wfFrom_cons.mp hm'
      exact absurd ((h x'.1 hk').trans (Memory.read_cons_self x'.1 x'.2 rest')).symm hv'
  | cons x rest ih =>
    obtain ⟨k, v⟩ := x
    obtain ⟨-, hk, hv, hrest⟩ := Memory.wfFrom_cons.mp hm
    cases m' with
    | nil => exact absurd ((Memory.read_cons_self k v rest).symm.trans (h k hk)) hv
    | cons x' rest' =>
      obtain ⟨k', v'⟩ := x'
      obtain ⟨-, hk', -, hrest'⟩ := Memory.wfFrom_cons.mp hm'
      obtain rfl : k = k' :=
        Nat.le_antisymm (Memory.head_le_of_read_eq hm' hm (h k' hk').symm) (Memory.head_le_of_read_eq hm hm' (h k hk))
      obtain rfl : v = v' := by simpa only [Memory.read_cons_self] using h k hk
      refine congrArg _ (ih hrest hrest' fun addr ha => ?_)
      rcases Nat.lt_or_ge k addr with hlt | hge
      · simpa only [Memory.read_cons_other v _ hlt.ne] using h addr ha
      · rw [Memory.read_of_lt hrest (Nat.lt_succ_of_le hge), Memory.read_of_lt hrest' (Nat.lt_succ_of_le hge)]

/-- Settles O12, by `Memory.eq_of_read_eq`: the addresses below 65536 are the words. -/
theorem canonicalMemoryIsExtensional : Obligations.CanonicalMemoryIsExtensional := by
  intro s t hs ht hsame
  refine Memory.eq_of_read_eq ht hs fun addr ha => ?_
  simpa only [State.memRead, BitVec.toNat_ofNat, Nat.mod_eq_of_lt ha] using hsame (BitVec.ofNat 16 addr)

end Sys2Proof.Machine

/-! PROOFS. The one exception and the end of a run (60_exceptions.md R260 to R262; 70_reset_and_hazards.md R295). -/

namespace Sys2Proof

theorem Stop.instrLength_opcode (k : Stop) : instrLength k.opcode = 1 := by cases k <;> rfl

/-- The faulting opcodes, in the order in which O6 lists their bytes. -/
def Stop.all : List Stop :=
  [.stop, .daa, .halt, .reti, .di, .ei, .d3, .db, .dd, .e3, .e4, .eb, .ec, .ed, .f4, .fc, .fd]

theorem Stop.mem_all (k : Stop) : k ∈ Stop.all := by cases k <;> decide

theorem Stop.mem_map_opcode_all {op : Byte} : op ∈ Stop.all.map Stop.opcode ↔ ∃ k : Stop, k.opcode = op := by
  simp only [List.mem_map, Stop.mem_all, true_and]

end Sys2Proof

namespace Sys2Proof.Machine

/-! ### Where a step faults -/

/-- The bytes of an instruction begin with the byte at PC. -/
theorem State.instrBytes_head? (s : State) : s.instrBytes.head? = some (s.memRead s.pc) := by
  have hpos := instrLength_pos (s.memRead s.pc)
  simp [State.instrBytes, List.head?_range, hpos.ne']

/-- A faulting opcode at PC is fetched as an instruction of one byte. -/
theorem State.fetchDecode_of_stop {s : State} {k : Stop} (h : s.memRead s.pc = k.opcode) :
    s.fetchDecode = (.instr (Form.stops k).instr [], s.setPc (s.pc + 1#16)) := by
  have hbytes : s.instrBytes = encode (Form.stops k).instr ++ [] := by
    simp [State.instrBytes, h, k.instrLength_opcode, encode_stops]
  rw [State.fetchDecode_eq_decode, hbytes, decode_encode_instr (f := .stops k) nofun, h, k.instrLength_opcode]

/-- At a faulting opcode the step raises its fault at PC, and fetching that byte is its one access. -/
theorem step_of_stop {s : State} {k : Stop} (h : s.memRead s.pc = k.opcode) :
    step s = .fault (.unimplementedOpcode k.opcode false s.pc) ∧ stepAccesses s = [.fetch s.pc k.opcode] := by
  have hfetch := State.fetchDecode_of_stop h
  constructor
  · rw [step_of_fetchDecode hfetch, exec_stops, State.setPc_pc, BitVec.add_sub_cancel]
  · rw [stepAccesses_of_fetchDecode hfetch, dataAccesses_instr (f := .stops k) nofun nofun, h, k.instrLength_opcode, ← h]
    rfl

/-- A step has a next state, or a faulting opcode stands at PC; it never refuses. -/
theorem step_outcome (s : State) : (∃ t, step s = .next t) ∨ ∃ k : Stop, s.memRead s.pc = k.opcode := by
  obtain ⟨i, -, henc, hstep⟩ := step_cases s
  obtain ⟨t, ht⟩ | ⟨k, rfl, -⟩ := exec_cases i (s.setPc (s.pc + BitVec.ofNat 16 (instrLength (s.memRead s.pc))))
  · exact .inl ⟨t, hstep.trans ht⟩
  · have hhead := s.instrBytes_head?
    rw [← henc, encode_stops] at hhead
    exact .inr ⟨k, (Option.some.inj hhead).symm⟩

/-- Settles O6: the statement's list is the opcodes of `Stop`; at one of them `step_of_stop` says what the step does, and at
any other byte `step_outcome` leaves a next state only. -/
theorem stepFaultsExactlyAtUnimplementedOpcodes : Obligations.StepFaultsExactlyAtUnimplementedOpcodes := by
  intro s
  change if s.memRead s.pc ∈ Stop.all.map Stop.opcode then _ else _
  split
  case isTrue h =>
    obtain ⟨k, hk⟩ := Stop.mem_map_opcode_all.mp h
    rw [← hk]
    exact step_of_stop hk.symm
  case isFalse h =>
    exact (step_outcome s).resolve_right fun ⟨k, hk⟩ => h (Stop.mem_map_opcode_all.mpr ⟨k, hk.symm⟩)

/-! ### How a run ends -/

/-- A state reached from the state after a step is reached from the state before it. -/
theorem Reaches.head {s t u : State} (hstep : Machine.step s = .next t) (h : Reaches t u) : Reaches s u := by
  induction h with
  | here => exact .step (.here s) hstep
  | step _ hlast ih => exact .step ih hlast

section RunUntil

variable {stop : State → Bool} {s : State}

theorem runUntil_of_stop (n : Nat) (h : stop s = true) : runUntil stop n s = .stoppedByHost s := by
  cases n <;> exact if_pos h

theorem runUntil_zero_of_not_stop (h : stop s = false) : runUntil stop 0 s = .running s := by
  simp [runUntil, h]

theorem runUntil_succ_of_next {t : State} (n : Nat) (h : stop s = false) (hstep : step s = .next t) :
    runUntil stop (n + 1) s = runUntil stop n t := by
  simp [runUntil, h, hstep]

theorem runUntil_succ_of_fault {r : Fault} (n : Nat) (h : stop s = false) (hstep : step s = .fault r) :
    runUntil stop (n + 1) s = .faulted r := by
  simp [runUntil, h, hstep]

end RunUntil

/-- Settles O23, by induction on the bound: a run whose criterion is not met goes on from the next state, or ends with the
fault, which `step_outcome` leaves as the only other outcome of a step. -/
theorem runEndsByHostOrFault : Obligations.RunEndsByHostOrFault := by
  intro stop n
  induction n with
  | zero =>
    intro s
    cases hs : stop s with
    | true => exact .inl ⟨s, runUntil_of_stop 0 hs, hs, .here s⟩
    | false => exact .inr (.inr ⟨s, runUntil_zero_of_not_stop hs, hs, .here s⟩)
  | succ n ih =>
    intro s
    cases hs : stop s with
    | true => exact .inl ⟨s, runUntil_of_stop (n + 1) hs, hs, .here s⟩
    | false =>
      obtain ⟨t, ht⟩ | ⟨k, hk⟩ := step_outcome s
      · rw [runUntil_succ_of_next n hs ht]
        obtain ⟨u, hrun, hu, hreach⟩ | ⟨r, hrun, u, hreach, hfault⟩ | ⟨u, hrun, hu, hreach⟩ := ih t
        · exact .inl ⟨u, hrun, hu, hreach.head ht⟩
        · exact .inr (.inl ⟨r, hrun, u, hreach.head ht, hfault⟩)
        · exact .inr (.inr ⟨u, hrun, hu, hreach.head ht⟩)
      · obtain ⟨hfault, -⟩ := step_of_stop hk
        exact .inr (.inl ⟨_, runUntil_succ_of_fault n hs hfault, s, .here s, hs, hfault⟩)

end Sys2Proof.Machine
